-- ==== Sys2Proof/Word.lean ====
section
/-! DEFINITION. Bytes, words and the word vectors of the engines (00_scope.md R10, R11).

The word operators of R11 are Lean's own on `BitVec`: `+_N` is `+`, `^` is `^^^`, `&` is `&&&`, `|` is `|||`,
`~_N` is `~~~`, `SHL_N` and `SHR_N` are `<<<` and `>>>`, `ROTL_N` and `ROTR_N` are `rotateLeft` and
`rotateRight`, `zext_N` is `setWidth N`. -/

namespace Sys2Proof

/-- A value of width 8 (R12). -/
abbrev Byte := BitVec 8

/-- A command word (30_encoding.md R90). -/
abbrev Word16 := BitVec 16

abbrev Word32 := BitVec 32

abbrev Word64 := BitVec 64

/-- Four 32-bit words: `md5.H[0..3]`, also called A, B, C, D (10_state.md R26). -/
structure Words4 where
  h0 : Word32
  h1 : Word32
  h2 : Word32
  h3 : Word32
deriving DecidableEq, Repr

/-- Five 32-bit words: `sha1.H[0..4]` (10_state.md R26). -/
structure Words5 where
  h0 : Word32
  h1 : Word32
  h2 : Word32
  h3 : Word32
  h4 : Word32
deriving DecidableEq, Repr

/-- Eight words of one width: `s256.H[0..7]` at 32 bits, `s512.H[0..7]` at 64 bits (10_state.md R26). The same
shape holds the working variables `a .. h` of the two SHA-2 engines. -/
structure Words8 (w : Nat) where
  h0 : BitVec w
  h1 : BitVec w
  h2 : BitVec w
  h3 : BitVec w
  h4 : BitVec w
  h5 : BitVec w
  h6 : BitVec w
  h7 : BitVec w
deriving DecidableEq, Repr

/-- The words in index order. -/
def Words4.toList (x : Words4) : List Word32 := [x.h0, x.h1, x.h2, x.h3]

/-- The words in index order. -/
def Words5.toList (x : Words5) : List Word32 := [x.h0, x.h1, x.h2, x.h3, x.h4]

/-- The words in index order. -/
def Words8.toList {w : Nat} (x : Words8 w) : List (BitVec w) :=
  [x.h0, x.h1, x.h2, x.h3, x.h4, x.h5, x.h6, x.h7]

/-- The feed-forward addition, word by word (41_md_common.md R167). -/
def Words4.add (x y : Words4) : Words4 :=
  ⟨x.h0 + y.h0, x.h1 + y.h1, x.h2 + y.h2, x.h3 + y.h3⟩

/-- The feed-forward addition, word by word (41_md_common.md R167). -/
def Words5.add (x y : Words5) : Words5 :=
  ⟨x.h0 + y.h0, x.h1 + y.h1, x.h2 + y.h2, x.h3 + y.h3, x.h4 + y.h4⟩

/-- The feed-forward addition, word by word (41_md_common.md R167). -/
def Words8.add {w : Nat} (x y : Words8 w) : Words8 w :=
  ⟨x.h0 + y.h0, x.h1 + y.h1, x.h2 + y.h2, x.h3 + y.h3,
   x.h4 + y.h4, x.h5 + y.h5, x.h6 + y.h6, x.h7 + y.h7⟩

end Sys2Proof
end

