-- ==== Sys2Proof/Syntax.lean ====
section
/-! DEFINITION. The commands: one constructor per row of spec/opcode_table.json (30_encoding.md R91, R96). -/

namespace Sys2Proof

/-- A decoded command. NEW, BYTE and FINISH are the only commands (46_facade_hex.md R296); the table gives NEW
one row per selector name and three rows for the selectors that name no engine. -/
inductive Instr where
  /-- `NEW SHA256`, word 0x1000. -/
  | newSha256
  /-- `NEW MD5`, word 0x1100. -/
  | newMd5
  /-- `NEW CRC32`, word 0x1200. -/
  | newCrc32
  /-- `NEW CRC8`, word 0x1300. -/
  | newCrc8
  /-- `NEW CRC16`, word 0x1400. -/
  | newCrc16
  /-- `NEW SHA1`, word 0x1500. -/
  | newSha1
  /-- `NEW SHA224`, word 0x1600. -/
  | newSha224
  /-- `NEW SHA384`, word 0x1700. -/
  | newSha384
  /-- `NEW SHA512`, word 0x1800. -/
  | newSha512
  /-- `NEW #9`, word 0x1900: the selector names no engine. -/
  | newUnsupported9
  /-- `NEW #10..#11`, match 0x1A00 mask 0xFEFF: `sel` is 0xA or 0xB and names no engine. -/
  | newUnsupportedAB (sel : BitVec 4)
  /-- `NEW #12..#15`, match 0x1C00 mask 0xFCFF: `sel` is 0xC to 0xF and names no engine. -/
  | newUnsupportedCF (sel : BitVec 4)
  /-- `BYTE imm`, match 0x2000 mask 0xFF00: one message byte, used as it is (30_encoding.md R93). -/
  | byteImm (imm : Byte)
  /-- `FINISH`, word 0x3000. -/
  | finish
deriving DecidableEq, Repr

/-- Why a command word does not decode (30_encoding.md R95): every other word is reserved. -/
inductive DecodeError where
  /-- `op` is 0x0 or 0x4 to 0xF. -/
  | reservedOp (op : BitVec 4)
  /-- `op` is 0x1 (NEW) and the unused field `imm` is not zero. -/
  | newImmNonzero (imm : Byte)
  /-- `op` is 0x2 (BYTE) and the unused field `sel` is not zero. -/
  | byteSelNonzero (sel : BitVec 4)
  /-- `op` is 0x3 (FINISH) and an unused field is not zero. -/
  | finishFieldNonzero (sel : BitVec 4) (imm : Byte)
deriving DecidableEq, Repr

end Sys2Proof
end

