-- ==== Sys2Proof/WellFormed.lean ====
section
/-! DEFINITION. Which terms of `Instr` stand for a command word: the two rows of the opcode table that take in
several selectors bound the selector they carry (30_encoding.md R96). Every other operand has exactly the width
of its field, so every value of it is well formed (R93). -/

namespace Sys2Proof

/-- The operands lie in the ranges their row of the opcode table gives them (30_encoding.md R92, R96). -/
def Instr.wellFormed : Instr → Bool
  | .newSha256 => true
  | .newMd5 => true
  | .newCrc32 => true
  | .newCrc8 => true
  | .newCrc16 => true
  | .newSha1 => true
  | .newSha224 => true
  | .newSha384 => true
  | .newSha512 => true
  | .newUnsupported9 => true
  | .newUnsupportedAB sel => decide (sel = 0xA#4 ∨ sel = 0xB#4)
  | .newUnsupportedCF sel => decide (0xC#4 ≤ sel)
  | .byteImm _ => true
  | .finish => true

end Sys2Proof
end

