-- ==== Sys2Proof/Decode.lean ====
section
/-! DEFINITION. The command word `op[15:12] sel[11:8] imm[7:0]` (30_encoding.md R90), its decoder, total on all
65,536 words and refusing the reserved ones by name (R95), and its encoder (R96). -/

namespace Sys2Proof

/-- `c[15:12]`, the operation code (R90). -/
def opField (c : Word16) : BitVec 4 := c.extractLsb' 12 4

/-- `c[11:8]`, the algorithm selector (R90, R93). -/
def selField (c : Word16) : BitVec 4 := c.extractLsb' 8 4

/-- `c[7:0]`, the message byte, taken as it is (R90, R93). -/
def immField (c : Word16) : Byte := c.extractLsb' 0 8

/-- The NEW command that carries the selector `sel`: the row of the opcode table it falls in (R92, R96). -/
def newInstr (sel : BitVec 4) : Instr :=
  match sel with
  | 0x0#4 => .newSha256
  | 0x1#4 => .newMd5
  | 0x2#4 => .newCrc32
  | 0x3#4 => .newCrc8
  | 0x4#4 => .newCrc16
  | 0x5#4 => .newSha1
  | 0x6#4 => .newSha224
  | 0x7#4 => .newSha384
  | 0x8#4 => .newSha512
  | 0x9#4 => .newUnsupported9
  | 0xA#4 => .newUnsupportedAB 0xA#4
  | 0xB#4 => .newUnsupportedAB 0xB#4
  | sel => .newUnsupportedCF sel

/-- The decoder: `op` first, then the fields the command does not use must be zero (R90, R95). -/
def decode (c : Word16) : Except DecodeError Instr :=
  match opField c with
  | 0x1#4 => if immField c = 0 then .ok (newInstr (selField c)) else .error (.newImmNonzero (immField c))
  | 0x2#4 => if selField c = 0 then .ok (.byteImm (immField c)) else .error (.byteSelNonzero (selField c))
  | 0x3#4 =>
    if selField c = 0 ∧ immField c = 0 then .ok .finish
    else .error (.finishFieldNonzero (selField c) (immField c))
  | op => .error (.reservedOp op)

/-- A command word from its three fields (R90). -/
def packWord (op sel : BitVec 4) (imm : Byte) : Word16 :=
  (op.setWidth 16 <<< 12) ||| (sel.setWidth 16 <<< 8) ||| imm.setWidth 16

/-- The encoder (R91, R92, R96); the fields a command does not use are zero (R95). -/
def encode : Instr → Word16
  | .newSha256 => packWord 0x1 0x0 0x00
  | .newMd5 => packWord 0x1 0x1 0x00
  | .newCrc32 => packWord 0x1 0x2 0x00
  | .newCrc8 => packWord 0x1 0x3 0x00
  | .newCrc16 => packWord 0x1 0x4 0x00
  | .newSha1 => packWord 0x1 0x5 0x00
  | .newSha224 => packWord 0x1 0x6 0x00
  | .newSha384 => packWord 0x1 0x7 0x00
  | .newSha512 => packWord 0x1 0x8 0x00
  | .newUnsupported9 => packWord 0x1 0x9 0x00
  | .newUnsupportedAB sel => packWord 0x1 sel 0x00
  | .newUnsupportedCF sel => packWord 0x1 sel 0x00
  | .byteImm imm => packWord 0x2 0x0 imm
  | .finish => packWord 0x3 0x0 0x00

/-- The one command word of which `w` gives the low `nbits` bits, the bits above being 0. -/
def tableWord (nbits w : Nat) : Word16 := BitVec.ofNat 16 (w % 2 ^ nbits)

/-- The command the decoder reads from a row's bits. A command is one 16-bit word and there is no second word
(R90), so more than 16 bits are no command. -/
def decodeTableWord (nbits w : Nat) : Option Instr :=
  if nbits ≤ 16 then
    match decode (tableWord nbits w) with
    | .ok i => some i
    | .error _ => none
  else none

/-- The `match` and `mask` of a command's row in the opcode map (R96). -/
def tableRow : Instr → Word16 × Word16
  | .newSha256 => (0x1000, 0xFFFF)
  | .newMd5 => (0x1100, 0xFFFF)
  | .newCrc32 => (0x1200, 0xFFFF)
  | .newCrc8 => (0x1300, 0xFFFF)
  | .newCrc16 => (0x1400, 0xFFFF)
  | .newSha1 => (0x1500, 0xFFFF)
  | .newSha224 => (0x1600, 0xFFFF)
  | .newSha384 => (0x1700, 0xFFFF)
  | .newSha512 => (0x1800, 0xFFFF)
  | .newUnsupported9 => (0x1900, 0xFFFF)
  | .newUnsupportedAB _ => (0x1A00, 0xFEFF)
  | .newUnsupportedCF _ => (0x1C00, 0xFCFF)
  | .byteImm _ => (0x2000, 0xFF00)
  | .finish => (0x3000, 0xFFFF)

end Sys2Proof
end

