-- ==== Sys2Proof/Machine/Bytes.lean ====
section
/-! DEFINITION. Byte-order conversions (00_scope.md R13) and the words of a block (20_memory.md R62, R63). -/

namespace Sys2Proof.Machine

/-- `be32(b0,b1,b2,b3)` (00_scope.md R13). -/
def be32 (b0 b1 b2 b3 : Byte) : Word32 :=
  (b0.setWidth 32 <<< 24) ||| (b1.setWidth 32 <<< 16) ||| (b2.setWidth 32 <<< 8) ||| b3.setWidth 32

/-- `le32(b0,b1,b2,b3)` (00_scope.md R13). -/
def le32 (b0 b1 b2 b3 : Byte) : Word32 := be32 b3 b2 b1 b0

/-- `be64(b0..b7)` (00_scope.md R13): the first four bytes are the high half. -/
def be64 (b0 b1 b2 b3 b4 b5 b6 b7 : Byte) : Word64 :=
  ((be32 b0 b1 b2 b3).setWidth 64 <<< 32) ||| (be32 b4 b5 b6 b7).setWidth 64

/-- Byte `k` of a word, counted from the least significant one: `w[8k+7 : 8k]` (00_scope.md R10, R13). -/
def byteOf {w : Nat} (x : BitVec w) (k : Nat) : Byte := x.extractLsb' (8 * k) 8

/-- `to_be32(w)`: most significant byte first (00_scope.md R13). -/
def toBe32 (x : Word32) : List Byte := [byteOf x 3, byteOf x 2, byteOf x 1, byteOf x 0]

/-- `to_le32(w)`: least significant byte first (00_scope.md R13). -/
def toLe32 (x : Word32) : List Byte := [byteOf x 0, byteOf x 1, byteOf x 2, byteOf x 3]

/-- `to_be64(w)`: most significant byte first (00_scope.md R13). -/
def toBe64 (x : Word64) : List Byte :=
  [byteOf x 7, byteOf x 6, byteOf x 5, byteOf x 4, byteOf x 3, byteOf x 2, byteOf x 1, byteOf x 0]

/-- `to_le64(w)`: least significant byte first (00_scope.md R13). -/
def toLe64 (x : Word64) : List Byte :=
  [byteOf x 0, byteOf x 1, byteOf x 2, byteOf x 3, byteOf x 4, byteOf x 5, byteOf x 6, byteOf x 7]

/-- The block words of SHA-1 and SHA-224/256: word t is `be32` of bytes 4t to 4t+3 (20_memory.md R62). -/
def wordsBe32 : List Byte → List Word32
  | b0 :: b1 :: b2 :: b3 :: rest => be32 b0 b1 b2 b3 :: wordsBe32 rest
  | _ => []

/-- The block words of MD5: word t is `le32` of bytes 4t to 4t+3 (20_memory.md R62). -/
def wordsLe32 : List Byte → List Word32
  | b0 :: b1 :: b2 :: b3 :: rest => le32 b0 b1 b2 b3 :: wordsLe32 rest
  | _ => []

/-- The block words of SHA-384/512: word t is `be64` of bytes 8t to 8t+7 (20_memory.md R62). -/
def wordsBe64 : List Byte → List Word64
  | b0 :: b1 :: b2 :: b3 :: b4 :: b5 :: b6 :: b7 :: rest =>
    be64 b0 b1 b2 b3 b4 b5 b6 b7 :: wordsBe64 rest
  | _ => []

end Sys2Proof.Machine
end

