-- ==== Sys2Proof/Config.lean ====
section
/-! DEFINITION. The sizes the implementation fixes (00_scope.md R7, R8) and the one open value the model chooses.

The open parameters `PORT_BINDING`, `CYCLES_PER_COMMAND` and `BUS_MAP` of R9 are not here: no rule reads them
(assumption log, entry 7). -/

namespace Sys2Proof.Config

/-- Index width of the 64-byte block buffers of `md5`, `sha1`, `s256`; also the width of their cursors
(10_state.md R20, R28). -/
abbrev cursorWidth32 : Nat := 6

/-- Index width of the 128-byte block buffer of `s512`; also the width of its cursor (10_state.md R20, R28). -/
abbrev cursorWidth64 : Nat := 7

/-- Size of the digest output register `DOUT[0..63]` (10_state.md R23). -/
abbrev doutBytes : Nat := 64

/-- What a byte of a byte space reads as that nothing has written.
DESIGN CHOICE, unsafe (assumption log, entry 1): the spec leaves the contents after reset unspecified and calls
zero a legal choice (10_state.md R29; 93 U4, U5). -/
abbrev unwrittenByte : Byte := 0

end Sys2Proof.Config
end

