-- ==== Sys2Proof/Machine/Tables.lean ====
section
/-! DEFINITION. The constant tables of the engines (10_state.md R32, R33), copied from the numbered rules. -/

namespace Sys2Proof.Machine

/-- The words of a table that a rule prints in rows, one numeral a row: each row holds `n` words of `w` bits side by
side, the first in the highest bits, as the rule's line reads. -/
def tableWords (w n : Nat) (rows : List Nat) : List (BitVec w) :=
  rows.flatMap fun row => (List.range n).map fun j => BitVec.ofNat w (row >>> (w * (n - 1 - j)))

/-- `IV256[0..7]` (42_sha256.md R191). -/
def iv256 : Words8 32 :=
  ⟨0x6a09e667, 0xbb67ae85, 0x3c6ef372, 0xa54ff53a,
   0x510e527f, 0x9b05688c, 0x1f83d9ab, 0x5be0cd19⟩

/-- `IV224[0..7]` (42_sha256.md R192). -/
def iv224 : Words8 32 :=
  ⟨0xc1059ed8, 0x367cd507, 0x3070dd17, 0xf70e5939,
   0xffc00b31, 0x68581511, 0x64f98fa7, 0xbefa4fa4⟩

/-- `K256[0..63]`, row r holding `K256[8r] .. K256[8r+7]` (42_sha256.md R193). -/
def k256 : List Word32 :=
  tableWords 32 8 [
    0x428a2f98_71374491_b5c0fbcf_e9b5dba5_3956c25b_59f111f1_923f82a4_ab1c5ed5,
    0xd807aa98_12835b01_243185be_550c7dc3_72be5d74_80deb1fe_9bdc06a7_c19bf174,
    0xe49b69c1_efbe4786_0fc19dc6_240ca1cc_2de92c6f_4a7484aa_5cb0a9dc_76f988da,
    0x983e5152_a831c66d_b00327c8_bf597fc7_c6e00bf3_d5a79147_06ca6351_14292967,
    0x27b70a85_2e1b2138_4d2c6dfc_53380d13_650a7354_766a0abb_81c2c92e_92722c85,
    0xa2bfe8a1_a81a664b_c24b8b70_c76c51a3_d192e819_d6990624_f40e3585_106aa070,
    0x19a4c116_1e376c08_2748774c_34b0bcb5_391c0cb3_4ed8aa4a_5b9cca4f_682e6ff3,
    0x748f82ee_78a5636f_84c87814_8cc70208_90befffa_a4506ceb_bef9a3f7_c67178f2]

/-- `IV1[0..4]` (43_sha1.md R221). -/
def iv1 : Words5 :=
  ⟨0x67452301, 0xefcdab89, 0x98badcfe, 0x10325476, 0xc3d2e1f0⟩

/-- `K1[0..3]`, one constant per phase of 20 rounds (43_sha1.md R222). -/
def k1 : List Word32 := [0x5a827999, 0x6ed9eba1, 0x8f1bbcdc, 0xca62c1d6]

/-- `IVMD5[0..3]` (44_md5.md R241). -/
def ivMd5 : Words4 :=
  ⟨0x67452301, 0xefcdab89, 0x98badcfe, 0x10325476⟩

/-- `TMD5[0..63]`, the additive constants, row r holding `TMD5[8r] .. TMD5[8r+7]` (44_md5.md R242). -/
def tMd5 : List Word32 :=
  tableWords 32 8 [
    0xd76aa478_e8c7b756_242070db_c1bdceee_f57c0faf_4787c62a_a8304613_fd469501,
    0x698098d8_8b44f7af_ffff5bb1_895cd7be_6b901122_fd987193_a679438e_49b40821,
    0xf61e2562_c040b340_265e5a51_e9b6c7aa_d62f105d_02441453_d8a1e681_e7d3fbc8,
    0x21e1cde6_c33707d6_f4d50d87_455a14ed_a9e3e905_fcefa3f8_676f02d9_8d2a4c8a,
    0xfffa3942_8771f681_6d9d6122_fde5380c_a4beea44_4bdecfa9_f6bb4b60_bebfbc70,
    0x289b7ec6_eaa127fa_d4ef3085_04881d05_d9d4d039_e6db99e5_1fa27cf8_c4ac5665,
    0xf4292244_432aff97_ab9423a7_fc93a039_655b59c3_8f0ccc92_ffeff47d_85845dd1,
    0x6fa87e4f_fe2ce6e0_a3014314_4e0811a1_f7537e82_bd3af235_2ad7d2bb_eb86d391]

/-- The four rotation amounts of each quartile (44_md5.md R243). -/
def sMd5Rows : List (List Nat) := [[7, 12, 17, 22], [5, 9, 14, 20], [4, 11, 16, 23], [6, 10, 15, 21]]

/-- `SMD5[i]`: row floor(i/16), column i mod 4 (44_md5.md R243). -/
def sMd5 (i : Nat) : Nat := (sMd5Rows.getD (i / 16) []).getD (i % 4) 0

/-- `IV512[0..7]` (45_sha512.md R261). -/
def iv512 : Words8 64 :=
  ⟨0x6a09e667f3bcc908, 0xbb67ae8584caa73b, 0x3c6ef372fe94f82b, 0xa54ff53a5f1d36f1,
   0x510e527fade682d1, 0x9b05688c2b3e6c1f, 0x1f83d9abfb41bd6b, 0x5be0cd19137e2179⟩

/-- `IV384[0..7]` (45_sha512.md R262). -/
def iv384 : Words8 64 :=
  ⟨0xcbbb9d5dc1059ed8, 0x629a292a367cd507, 0x9159015a3070dd17, 0x152fecd8f70e5939,
   0x67332667ffc00b31, 0x8eb44a8768581511, 0xdb0c2e0d64f98fa7, 0x47b5481dbefa4fa4⟩

/-- `K512[0..79]`, row r holding `K512[4r] .. K512[4r+3]` (45_sha512.md R263). -/
def k512 : List Word64 :=
  tableWords 64 4 [
    0x428a2f98d728ae22_7137449123ef65cd_b5c0fbcfec4d3b2f_e9b5dba58189dbbc,
    0x3956c25bf348b538_59f111f1b605d019_923f82a4af194f9b_ab1c5ed5da6d8118,
    0xd807aa98a3030242_12835b0145706fbe_243185be4ee4b28c_550c7dc3d5ffb4e2,
    0x72be5d74f27b896f_80deb1fe3b1696b1_9bdc06a725c71235_c19bf174cf692694,
    0xe49b69c19ef14ad2_efbe4786384f25e3_0fc19dc68b8cd5b5_240ca1cc77ac9c65,
    0x2de92c6f592b0275_4a7484aa6ea6e483_5cb0a9dcbd41fbd4_76f988da831153b5,
    0x983e5152ee66dfab_a831c66d2db43210_b00327c898fb213f_bf597fc7beef0ee4,
    0xc6e00bf33da88fc2_d5a79147930aa725_06ca6351e003826f_142929670a0e6e70,
    0x27b70a8546d22ffc_2e1b21385c26c926_4d2c6dfc5ac42aed_53380d139d95b3df,
    0x650a73548baf63de_766a0abb3c77b2a8_81c2c92e47edaee6_92722c851482353b,
    0xa2bfe8a14cf10364_a81a664bbc423001_c24b8b70d0f89791_c76c51a30654be30,
    0xd192e819d6ef5218_d69906245565a910_f40e35855771202a_106aa07032bbd1b8,
    0x19a4c116b8d2d0c8_1e376c085141ab53_2748774cdf8eeb99_34b0bcb5e19b48a8,
    0x391c0cb3c5c95a63_4ed8aa4ae3418acb_5b9cca4f7763e373_682e6ff3d6b2b8a3,
    0x748f82ee5defb2fc_78a5636f43172f60_84c87814a1f0ab72_8cc702081a6439ec,
    0x90befffa23631e28_a4506cebde82bde9_bef9a3f7b2c67915_c67178f2e372532b,
    0xca273eceea26619c_d186b8c721c0c207_eada7dd6cde0eb1e_f57d4f7fee6ed178,
    0x06f067aa72176fba_0a637dc5a2c898a6_113f9804bef90dae_1b710b35131c471b,
    0x28db77f523047d84_32caab7b40c72493_3c9ebe0a15c9bebc_431d67c49c100d4c,
    0x4cc5d4becb3e42b6_597f299cfc657e2a_5fcb6fab3ad6faec_6c44198c4a475817]

/-- The polynomial of CRC-8 (40_crc.md R132). -/
def crc8Poly : BitVec 8 := 0x07

/-- The polynomial of CRC-16 (40_crc.md R136). -/
def crc16Poly : BitVec 16 := 0x1021

/-- The reflected polynomial of CRC-32 (40_crc.md R139). -/
def crc32Poly : BitVec 32 := 0xEDB88320

/-- One iteration of the table construction: test bit 0, shift right, conditionally XOR (40_crc.md R139). -/
def crc32Shift (c : Word32) : Word32 :=
  if c.getLsbD 0 then (c >>> 1) ^^^ crc32Poly else c >>> 1

/-- CRC32.TABLE, entry `n`: eight iterations from `n` (40_crc.md R139). -/
def crc32Entry (n : Nat) : Word32 := crc32Shift^[8] (BitVec.ofNat 32 n)

/-- CRC32.TABLE: `crc32.T[0..255]` (40_crc.md R139). -/
def crc32Table : Vector Word32 256 :=
  ⟨((List.range 256).map crc32Entry).toArray, by simp⟩

end Sys2Proof.Machine
end

