-- ==== Sys2Proof/Machine/State.lean ====
section
/-! DEFINITION. The architectural state (10_state.md R20) as plain data, its reset value (70_reset_and_hazards.md
R350), and the reasons a step can stop. -/

namespace Sys2Proof.Machine

/-- A byte space of 20_memory.md R60 (a block buffer or `DOUT`) as (index, byte) cells in one canonical form:
indices strictly rising, no cell holding `Config.unwrittenByte`, which is what an unlisted index reads as. -/
abbrev Memory := List Host.Cell

/-- The state record of a Merkle–Damgård engine (10_state.md R30, R31): accumulator words `h`, processed-bit
counter `cnt` (R27), fill cursor `cur` (R28), block buffer `buf` of `2 ^ cw` bytes (R29). -/
structure MdRecord (σ : Type) (cw : Nat) where
  h : σ
  cnt : BitVec 64
  cur : BitVec cw
  buf : Memory
deriving DecidableEq, Repr

/-- The status part of a response (30_encoding.md R94). -/
inductive Status where
  /-- Code 0: the command completed. -/
  | ok
  /-- Code 1: the command raised UnsupportedAlgorithm (60_exceptions.md R320). -/
  | unsupportedAlgorithm
deriving DecidableEq, Repr

/-- The response of one decoded command (30_encoding.md R94): a status and a payload of ASCII bytes, first
character first. -/
structure Response where
  status : Status
  payload : List Byte
deriving DecidableEq, Repr

/-- A move of the host that changes state (00_scope.md R16). -/
inductive HostMove where
  /-- Issue one command word. -/
  | command (word : Word16)
  /-- Apply hardware reset (70_reset_and_hazards.md R350). -/
  | hardwareReset
deriving DecidableEq, Repr

/-- The architectural state of 10_state.md R20, and the two ends of the command port. -/
structure State where
  /-- `SEL` (R21). -/
  sel : BitVec 4
  /-- `ERR` (R22). -/
  err : BitVec 1
  /-- `DLEN` (R23). -/
  dlen : BitVec 7
  /-- `DOUT[0..63]` (R23). -/
  dout : Memory
  /-- `crc8.R` (R25). -/
  crc8 : BitVec 8
  /-- `crc16.R` (R25). -/
  crc16 : BitVec 16
  /-- `crc32.R` (R25). -/
  crc32 : BitVec 32
  /-- `crc32.T[0..255]` (R32). -/
  crc32T : Vector Word32 256
  /-- Record `md5` (R30). -/
  md5 : MdRecord Words4 Config.cursorWidth32
  /-- Record `sha1` (R30). -/
  sha1 : MdRecord Words5 Config.cursorWidth32
  /-- `s256.var` (R24): 0 is SHA-256, 1 is SHA-224. -/
  s256Var : BitVec 1
  /-- The rest of record `s256` (R30). -/
  s256 : MdRecord (Words8 32) Config.cursorWidth32
  /-- `s512.var` (R24): 0 is SHA-512, 1 is SHA-384. -/
  s512Var : BitVec 1
  /-- The rest of record `s512` (R31). -/
  s512 : MdRecord (Words8 64) Config.cursorWidth64
  /-- The MODEL's own field: the moves the host will make, oldest first (00_scope.md R16, R17; log entry 2). -/
  pending : List HostMove
  /-- The MODEL's own field: the responses produced since the last hardware reset, oldest first
  (30_encoding.md R94, 00_scope.md R17; log entry 3). -/
  responses : List Response
deriving DecidableEq, Repr

/-- Why the machine stops with a fault. There is no such reason: the one exception of this hardware,
UnsupportedAlgorithm, is a next state (60_exceptions.md R322), and no engine operation can raise anything
(R321). Nothing raises this type. -/
inductive Fault where
deriving DecidableEq, Repr

/-- Why a step is refused. -/
inductive Refusal where
  /-- An arm of `exec` that has no meaning yet; no arm of this model answers it. Safe: the model says nothing. -/
  | notModelled (mnemonic : String)
  /-- Raised by `step` when the host issues a reserved command word, to which the spec gives no behaviour and which
  it tells a model to refuse (30_encoding.md R95, 60_exceptions.md R324, 93 U3). Safe: the model says nothing. -/
  | reservedWord (why : DecodeError)
deriving DecidableEq, Repr

/-- The machine right after hardware reset (10_state.md R20, 70_reset_and_hazards.md R350): `RESET_e` of every engine
under variant 0. The four block buffers and `DOUT` are unspecified there; the model lists nothing in them
(DESIGN CHOICE, log entry 1). The host has issued nothing and no command has answered (log entries 2 and 3). -/
def State.reset : State where
  sel := 0xF
  err := 0
  dlen := 0
  dout := []
  crc8 := 0x00
  crc16 := 0x0000
  crc32 := 0xFFFFFFFF
  crc32T := crc32Table
  md5 := { h := ivMd5, cnt := 0, cur := 0, buf := [] }
  sha1 := { h := iv1, cnt := 0, cur := 0, buf := [] }
  s256Var := 0
  s256 := { h := iv256, cnt := 0, cur := 0, buf := [] }
  s512Var := 0
  s512 := { h := iv512, cnt := 0, cur := 0, buf := [] }
  pending := []
  responses := []

end Sys2Proof.Machine
end

