-- ==== Sys2Proof/Machine/Operands.lean ====
section
/-! DEFINITION. The operands of the commands: the selector with its dispatch function (46_facade_hex.md R291), and
the message byte at the width each engine uses it (30_encoding.md R93). -/

namespace Sys2Proof.Machine

/-- The seven engine records (10_state.md R20, R36). -/
inductive Engine where
  | crc8
  | crc16
  | crc32
  | md5
  | sha1
  | s256
  | s512
deriving DecidableEq, Repr

/-- The dispatch function `ENGINE(s)` (46_facade_hex.md R291): the nine legal selectors, `none` for the others. -/
def engineOf (sel : BitVec 4) : Option Engine :=
  match sel with
  | 0x0#4 => some .s256
  | 0x1#4 => some .md5
  | 0x2#4 => some .crc32
  | 0x3#4 => some .crc8
  | 0x4#4 => some .crc16
  | 0x5#4 => some .sha1
  | 0x6#4 => some .s256
  | 0x7#4 => some .s512
  | 0x8#4 => some .s512
  | _ => none

/-- What NEW writes to `s256.var`, if anything (46_facade_hex.md R292, 30_encoding.md R92). -/
def s256VarOf (sel : BitVec 4) : Option (BitVec 1) :=
  match sel with
  | 0x0#4 => some 0
  | 0x6#4 => some 1
  | _ => none

/-- What NEW writes to `s512.var`, if anything (46_facade_hex.md R292, 30_encoding.md R92). -/
def s512VarOf (sel : BitVec 4) : Option (BitVec 1) :=
  match sel with
  | 0x8#4 => some 0
  | 0x7#4 => some 1
  | _ => none

/-- The message byte in CRC-8: as it is (40_crc.md R132). -/
def crc8Operand (b : Byte) : BitVec 8 := b

/-- The message byte in CRC-16: in the high eight bits (40_crc.md R136). -/
def crc16Operand (b : Byte) : BitVec 16 := b.setWidth 16 <<< 8

/-- The message byte in CRC-32: zero-extended (40_crc.md R141). -/
def crc32Operand (b : Byte) : BitVec 32 := b.setWidth 32

end Sys2Proof.Machine
end

