-- ==== Sys2Proof/Machine/Crc.lean ====
section
/-! DEFINITION. The CRC engines (40_crc.md): RESET, ABSORB and FINAL over the register alone. -/

namespace Sys2Proof.Machine

/-- One shift step of an unreflected CRC register: the test of the high bit is made on the value before the shift
(40_crc.md R132, R136). -/
def crcShiftLeft {w : Nat} (poly r : BitVec w) : BitVec w :=
  if r.msb then (r <<< 1) ^^^ poly else r <<< 1

/-- CRC8.RESET (40_crc.md R131). -/
def crc8Reset : BitVec 8 := 0x00

/-- CRC8.ABSORB(b) (40_crc.md R132). -/
def crc8Absorb (r : BitVec 8) (b : Byte) : BitVec 8 :=
  (crcShiftLeft crc8Poly)^[8] (r ^^^ crc8Operand b)

/-- CRC8.FINAL (40_crc.md R133): no final XOR. -/
def crc8Final (r : BitVec 8) : List Byte := [r]

/-- CRC16.RESET (40_crc.md R135). -/
def crc16Reset : BitVec 16 := 0x0000

/-- CRC16.ABSORB(b) (40_crc.md R136). -/
def crc16Absorb (r : BitVec 16) (b : Byte) : BitVec 16 :=
  (crcShiftLeft crc16Poly)^[8] (r ^^^ crc16Operand b)

/-- CRC16.FINAL (40_crc.md R137): no final XOR, most significant byte first. -/
def crc16Final (r : BitVec 16) : List Byte := [byteOf r 1, byteOf r 0]

/-- CRC32.RESET (40_crc.md R140). -/
def crc32Reset : BitVec 32 := 0xFFFFFFFF

/-- The table index of CRC32.ABSORB: `(R ^ b)[7:0]` (40_crc.md R141). -/
def crc32Index (r : BitVec 32) (b : Byte) : Byte := byteOf (r ^^^ crc32Operand b) 0

/-- CRC32.ABSORB(b) with the table `t` (40_crc.md R141). -/
def crc32Absorb (t : Vector Word32 256) (r : BitVec 32) (b : Byte) : BitVec 32 :=
  (r >>> 8) ^^^ t[(crc32Index r b).toNat]'(crc32Index r b).isLt

/-- CRC32.FINAL (40_crc.md R142): final XOR, most significant byte first. -/
def crc32Final (r : BitVec 32) : List Byte := toBe32 (r ^^^ 0xFFFFFFFF)

end Sys2Proof.Machine
end

