-- ==== Sys2Proof/Machine/Flags.lean ====
section
/-! DEFINITION. The one status flag, `ERR` (10_state.md R22): there are no carry, zero, overflow or busy flags. -/

namespace Sys2Proof.Machine

/-- The status code of a response, which is also the value the command writes to `ERR` (30_encoding.md R94,
60_exceptions.md R320): 0 is OK, 1 is UnsupportedAlgorithm. -/
def statusCode : Status → BitVec 1
  | .ok => 0
  | .unsupportedAlgorithm => 1

end Sys2Proof.Machine
end

