-- ==== Sys2Proof/Machine/Ops.lean ====
section
/-! DEFINITION. The named operations over the byte spaces and the registers, the one exception and its counterpart,
completing a command. -/

namespace Sys2Proof.Machine

/-! ### Byte spaces (20_memory.md R60, R61) -/

/-- The canonical form of a byte space of `size` bytes: indices strictly rising and below `size`, no cell equal to
what an unlisted index reads as. -/
abbrev Memory.wf (size : Nat) (m : Memory) : Prop :=
  List.Pairwise (fun c d => c.1 < d.1) m ∧ ∀ c ∈ m, c.1 < size ∧ c.2 ≠ Config.unwrittenByte

/-- One byte: "a byte reads back as last written", with no side effect (20_memory.md R61). -/
def Memory.read : Memory → Nat → Byte
  | [], _ => Config.unwrittenByte
  | (b, w) :: m, a => if b = a then w else Memory.read m a

/-- `MemRead(buf, a, n)`: the n bytes from index `a` (00_scope.md R14). -/
def Memory.readBytes (m : Memory) (a n : Nat) : List Byte := (List.range' a n).map m.read

/-- Put a cell in front of a list of cells, unless it holds what an unlisted index reads as. -/
def Memory.put (a : Nat) (v : Byte) (m : Memory) : Memory :=
  if v = Config.unwrittenByte then m else (a, v) :: m

/-- Store one byte, keeping the canonical form (20_memory.md R61). -/
def Memory.write : Memory → Nat → Byte → Memory
  | [], a, v => Memory.put a v []
  | (b, w) :: m, a, v =>
    if a < b then Memory.put a v ((b, w) :: m)
    else if a = b then Memory.put a v m
    else (b, w) :: Memory.write m a v

/-- `MemWrite(buf, a, n, v)`: the bytes of `vs` at the indices from `a` on (00_scope.md R14). -/
def Memory.writeBytes (m : Memory) (a : Nat) : List Byte → Memory
  | [] => m
  | v :: vs => Memory.writeBytes (m.write a v) (a + 1) vs

/-- `n` zero bytes from index `a` on: the zero fills of FINAL (41_md_common.md R163). -/
def Memory.zeroFill (m : Memory) (a n : Nat) : Memory := m.writeBytes a (List.replicate n 0x00)

/-! ### Registers: one update each (10_state.md R20) -/

def State.setSel (s : State) (v : BitVec 4) : State := { s with sel := v }

def State.setErr (s : State) (v : BitVec 1) : State := { s with err := v }

def State.setDlen (s : State) (v : BitVec 7) : State := { s with dlen := v }

def State.setDout (s : State) (v : Memory) : State := { s with dout := v }

def State.setCrc8 (s : State) (v : BitVec 8) : State := { s with crc8 := v }

def State.setCrc16 (s : State) (v : BitVec 16) : State := { s with crc16 := v }

def State.setCrc32 (s : State) (v : BitVec 32) : State := { s with crc32 := v }

def State.setMd5 (s : State) (v : MdRecord Words4 Config.cursorWidth32) : State := { s with md5 := v }

def State.setSha1 (s : State) (v : MdRecord Words5 Config.cursorWidth32) : State := { s with sha1 := v }

def State.setS256Var (s : State) (v : BitVec 1) : State := { s with s256Var := v }

def State.setS256 (s : State) (v : MdRecord (Words8 32) Config.cursorWidth32) : State := { s with s256 := v }

def State.setS512Var (s : State) (v : BitVec 1) : State := { s with s512Var := v }

def State.setS512 (s : State) (v : MdRecord (Words8 64) Config.cursorWidth64) : State := { s with s512 := v }

def State.setPending (s : State) (v : List HostMove) : State := { s with pending := v }

/-- Append one response to the response channel (30_encoding.md R94). -/
def State.pushResponse (s : State) (r : Response) : State := { s with responses := s.responses ++ [r] }

/-! ### The end of a command -/

/-- Every decoded command ends by writing `ERR` and yielding exactly one response, whose status is the value
written (30_encoding.md R94, 10_state.md R22). -/
def State.answer (s : State) (st : Status) (payload : List Byte) : State :=
  (s.setErr (statusCode st)).pushResponse ⟨st, payload⟩

/-- `raise UnsupportedAlgorithm`, the whole of taking the exception (60_exceptions.md R322): `ERR <- 1`, response
status 1 with an empty payload, nothing else; there is no vector, no saved state and no mode change. -/
def raiseUnsupported (s : State) : State := s.answer .unsupportedAlgorithm []

/-- `ERR <- 0; respond status 0` with the payload (46_facade_hex.md R292 to R294). There is no return from an
exception beside it: the next decoded command rewrites `ERR` (60_exceptions.md R323). -/
def completeCommand (s : State) (payload : List Byte) : State := s.answer .ok payload

/-- Hardware reset (70_reset_and_hazards.md R350): every item of 10_state.md R20 takes its reset value. The moves the
host has yet to make remain; the response channel starts afresh (log entries 2 and 3). -/
def hardwareReset (s : State) : State := State.reset.setPending s.pending

end Sys2Proof.Machine
end

