-- ==== Sys2Proof/Machine/Md.lean ====
section
/-! DEFINITION. The Merkle–Damgård shell shared by MD5, SHA-1, SHA-224/256 and SHA-384/512 (41_md_common.md), with
the engine as a parameter (R160). -/

namespace Sys2Proof.Machine

/-- What the shell uses of an engine (41_md_common.md R160). The block size is `2 ^ cw`, the cursor having the width
of the buffer's index (10_state.md R28). -/
structure MdShell (σ : Type) where
  /-- `LF`, the length-field size in bytes. -/
  lf : Nat
  /-- `IV_e` under the engine's current variant. -/
  iv : σ
  /-- `COMPRESS_e`, from one block of `2 ^ cw` bytes. -/
  compress : σ → List Byte → σ
  /-- `LEN_e(L)` (R164). -/
  lenField : BitVec 64 → List Byte
  /-- `OUT_e` under the engine's current variant. -/
  out : σ → List Byte

variable {σ : Type} {cw : Nat}

/-- The whole block buffer: what COMPRESS reads, indices 0 to BS-1 (20_memory.md R61). -/
def mdBlock (cw : Nat) (buf : Memory) : List Byte := buf.readBytes 0 (2 ^ cw)

/-- MD.RESET(e) (41_md_common.md R161); the buffer is not written. -/
def mdReset (sh : MdShell σ) (e : MdRecord σ cw) : MdRecord σ cw :=
  { e with h := sh.iv, cnt := 0, cur := 0 }

/-- The store of MD.ABSORB: the byte at the cursor (41_md_common.md R162, R169). -/
def mdStore (e : MdRecord σ cw) (b : Byte) : Memory := e.buf.write e.cur.toNat b

/-- MD.ABSORB(e, b) (41_md_common.md R162): the block is compressed by the byte that completes it. -/
def mdAbsorb (sh : MdShell σ) (e : MdRecord σ cw) (b : Byte) : MdRecord σ cw :=
  if e.cur.toNat = 2 ^ cw - 1 then
    { h := sh.compress e.h (mdBlock cw (mdStore e b)), cnt := e.cnt + 8, cur := 0, buf := mdStore e b }
  else
    { h := e.h, cnt := e.cnt + 8, cur := e.cur + 1, buf := mdStore e b }

/-- The second decision of the shell (41_md_common.md R163, R168): after the pad byte the length field no longer
fits in this block. -/
def mdNeedsExtra (sh : MdShell σ) (e : MdRecord σ cw) : Bool :=
  decide (2 ^ cw - sh.lf < e.cur.toNat + 1)

/-- The buffer of MD.FINAL once the pad byte is stored at the cursor (41_md_common.md R163). -/
def mdPadded (e : MdRecord σ cw) : Memory := e.buf.write e.cur.toNat 0x80

/-- The buffer of the extra block: zeros after the pad byte up to the end (41_md_common.md R163). -/
def mdExtraBuf (e : MdRecord σ cw) : Memory :=
  (mdPadded e).zeroFill (e.cur.toNat + 1) (2 ^ cw - (e.cur.toNat + 1))

/-- The zero bytes up to offset BS-LF from index `i` on, then the length field (41_md_common.md R163). -/
def mdWithLength (sh : MdShell σ) (cw : Nat) (buf : Memory) (i : Nat) (l : BitVec 64) : Memory :=
  (buf.zeroFill i (2 ^ cw - sh.lf - i)).writeBytes (2 ^ cw - sh.lf) (sh.lenField l)

/-- The buffer of the last block when an extra block went before it (41_md_common.md R163). -/
def mdLastAfterExtra (sh : MdShell σ) (e : MdRecord σ cw) : Memory :=
  mdWithLength sh cw (mdExtraBuf e) 0 e.cnt

/-- The buffer of the only block FINAL compresses when no extra block is needed (41_md_common.md R163). -/
def mdLastOnly (sh : MdShell σ) (e : MdRecord σ cw) : Memory :=
  mdWithLength sh cw (mdPadded e) (e.cur.toNat + 1) e.cnt

/-- The record MD.FINAL(e) leaves (41_md_common.md R163): the final chaining value after one or two COMPRESS, the last
block in the buffer, `cnt` and `cur` as they were. -/
def mdFinal (sh : MdShell σ) (e : MdRecord σ cw) : MdRecord σ cw :=
  if mdNeedsExtra sh e then
    { h := sh.compress (sh.compress e.h (mdBlock cw (mdExtraBuf e))) (mdBlock cw (mdLastAfterExtra sh e))
      cnt := e.cnt
      cur := e.cur
      buf := mdLastAfterExtra sh e }
  else
    { h := sh.compress e.h (mdBlock cw (mdLastOnly sh e))
      cnt := e.cnt
      cur := e.cur
      buf := mdLastOnly sh e }

/-- The digest MD.FINAL(e) returns: `OUT_e()` of the final chaining value (41_md_common.md R163). -/
def mdDigest (sh : MdShell σ) (e : MdRecord σ cw) : List Byte := sh.out (mdFinal sh e).h

/-- `LEN_e` of MD5 (41_md_common.md R164). -/
def lenLe64 (l : BitVec 64) : List Byte := toLe64 l

/-- `LEN_e` of SHA-1 and SHA-224/256 (41_md_common.md R164). -/
def lenBe64 (l : BitVec 64) : List Byte := toBe64 l

/-- `LEN_e` of SHA-384/512: eight zero bytes, then the 64-bit count (41_md_common.md R164). -/
def lenBe128 (l : BitVec 64) : List Byte := List.replicate 8 0x00 ++ toBe64 l

end Sys2Proof.Machine
end

