-- ==== Sys2Proof/Machine/Md5.lean ====
section
/-! DEFINITION. The MD5 engine (44_md5.md). -/

namespace Sys2Proof.Machine

/-- `FMD5(i, x, y, z)`, the nonlinear function of round i's quartile (44_md5.md R244). -/
def fMd5 (i : Nat) (x y z : Word32) : Word32 :=
  if i < 16 then (x &&& y) ||| (~~~x &&& z)
  else if i < 32 then (x &&& z) ||| (y &&& ~~~z)
  else if i < 48 then x ^^^ y ^^^ z
  else y ^^^ (x ||| ~~~z)

/-- `GMD5(i)`, the message index of round i (44_md5.md R244). -/
def gMd5 (i : Nat) : Nat :=
  if i < 16 then i
  else if i < 32 then (5 * i + 1) % 16
  else if i < 48 then (3 * i + 5) % 16
  else (7 * i) % 16

/-- Round `i` on the working variables a, b, c, d, with the block words `x` (44_md5.md R245). -/
def md5Round (x : List Word32) (v : Words4) (i : Nat) : Words4 :=
  let tmp := v.h0 + fMd5 i v.h1 v.h2 v.h3 + tMd5.getD i 0 + x.getD (gMd5 i) 0
  { h0 := v.h3, h1 := v.h1 + tmp.rotateLeft (sMd5 i), h2 := v.h1, h3 := v.h2 }

/-- MD5.COMPRESS(block) (44_md5.md R245): 64 rounds, then the feed-forward. -/
def md5Compress (h : Words4) (block : List Byte) : Words4 :=
  h.add ((List.range 64).foldl (md5Round (wordsLe32 block)) h)

/-- MD5.OUT (44_md5.md R246): least significant byte of each word first. -/
def md5Out (h : Words4) : List Byte := h.toList.flatMap toLe32

/-- MD5 in the shell (41_md_common.md R160). -/
def md5Shell : MdShell Words4 where
  lf := 8
  iv := ivMd5
  compress := md5Compress
  lenField := lenLe64
  out := md5Out

end Sys2Proof.Machine
end

