-- ==== Sys2Proof/Machine/Sha1.lean ====
section
/-! DEFINITION. The SHA-1 engine (43_sha1.md). -/

namespace Sys2Proof.Machine

/-- `F1(t, x, y, z)`, the function of round t's phase (43_sha1.md R223). -/
def fSha1 (t : Nat) (x y z : Word32) : Word32 :=
  if t < 20 then (x &&& y) ||| (~~~x &&& z)
  else if t < 40 then x ^^^ y ^^^ z
  else if t < 60 then (x &&& y) ||| (x &&& z) ||| (y &&& z)
  else x ^^^ y ^^^ z

/-- The schedule, newest word first: `n` more words, word t from words t-3, t-8, t-14, t-16, which stand at
positions 2, 7, 13, 15 (43_sha1.md R224). -/
def sha1Expand : Nat → List Word32 → List Word32
  | 0, ws => ws
  | n + 1, ws =>
    sha1Expand n
      ((ws.getD 2 0 ^^^ ws.getD 7 0 ^^^ ws.getD 13 0 ^^^ ws.getD 15 0).rotateLeft 1 :: ws)

/-- `W[0..79]` from the 16 block words (43_sha1.md R224). -/
def sha1Schedule (block : List Byte) : List Word32 := (sha1Expand 64 (wordsBe32 block).reverse).reverse

/-- Round `tw.1` with the schedule word `tw.2` on the working variables a to e (43_sha1.md R224). -/
def sha1Round (v : Words5) (tw : Nat × Word32) : Words5 :=
  { h0 := v.h0.rotateLeft 5 + fSha1 tw.1 v.h1 v.h2 v.h3 + v.h4 + k1.getD (tw.1 / 20) 0 + tw.2
    h1 := v.h0
    h2 := v.h1.rotateLeft 30
    h3 := v.h2
    h4 := v.h3 }

/-- SHA1.COMPRESS(block) (43_sha1.md R224): 80 rounds, then the feed-forward. -/
def sha1Compress (h : Words5) (block : List Byte) : Words5 :=
  h.add (((List.range 80).zip (sha1Schedule block)).foldl sha1Round h)

/-- SHA1.OUT (43_sha1.md R225): most significant byte of each word first. -/
def sha1Out (h : Words5) : List Byte := h.toList.flatMap toBe32

/-- SHA-1 in the shell (41_md_common.md R160). -/
def sha1Shell : MdShell Words5 where
  lf := 8
  iv := iv1
  compress := sha1Compress
  lenField := lenBe64
  out := sha1Out

end Sys2Proof.Machine
end

