-- ==== Sys2Proof/Machine/Sha2.lean ====
section
/-! DEFINITION. What the SHA-224/256 and SHA-384/512 engines share: the schedule, the round and the feed-forward,
"same shape" at two widths (42_sha256.md R195, 45_sha512.md R265). -/

namespace Sys2Proof.Machine

variable {w : Nat}

/-- `Ch` (42_sha256.md R194), `Ch64` (45_sha512.md R264). -/
def chFn (x y z : BitVec w) : BitVec w := (x &&& y) ^^^ (~~~x &&& z)

/-- `Maj` (42_sha256.md R194), `Maj64` (45_sha512.md R264). -/
def majFn (x y z : BitVec w) : BitVec w := (x &&& y) ^^^ (x &&& z) ^^^ (y &&& z)

/-- `n` more schedule words, newest first: word t from words t-2, t-7, t-15, t-16, which stand at positions
1, 6, 14, 15 (42_sha256.md R195, 45_sha512.md R265). -/
def sha2Expand (ssig0 ssig1 : BitVec w → BitVec w) : Nat → List (BitVec w) → List (BitVec w)
  | 0, ws => ws
  | n + 1, ws =>
    sha2Expand ssig0 ssig1 n
      ((ssig1 (ws.getD 1 0) + ws.getD 6 0 + ssig0 (ws.getD 14 0) + ws.getD 15 0) :: ws)

/-- One round on the working variables a to h, with the round constant `kw.1` and the schedule word `kw.2`
(42_sha256.md R195, 45_sha512.md R265). -/
def sha2Round (bsig0 bsig1 : BitVec w → BitVec w) (v : Words8 w) (kw : BitVec w × BitVec w) : Words8 w :=
  let t1 := v.h7 + bsig1 v.h4 + chFn v.h4 v.h5 v.h6 + kw.1 + kw.2
  let t2 := bsig0 v.h0 + majFn v.h0 v.h1 v.h2
  { h0 := t1 + t2, h1 := v.h0, h2 := v.h1, h3 := v.h2, h4 := v.h3 + t1, h5 := v.h4, h6 := v.h5, h7 := v.h6 }

/-- The rounds over constants and schedule, then the feed-forward (42_sha256.md R195, 45_sha512.md R265). -/
def sha2Compress (bsig0 bsig1 : BitVec w → BitVec w) (ks ws : List (BitVec w)) (h : Words8 w) : Words8 w :=
  h.add ((ks.zip ws).foldl (sha2Round bsig0 bsig1) h)

end Sys2Proof.Machine
end

