-- ==== Sys2Proof/Machine/Sha256.lean ====
section
/-! DEFINITION. The SHA-224/256 engine (42_sha256.md). -/

namespace Sys2Proof.Machine

/-- `BSIG0` (42_sha256.md R194). -/
def bsig0W32 (x : Word32) : Word32 := x.rotateRight 2 ^^^ x.rotateRight 13 ^^^ x.rotateRight 22

/-- `BSIG1` (42_sha256.md R194). -/
def bsig1W32 (x : Word32) : Word32 := x.rotateRight 6 ^^^ x.rotateRight 11 ^^^ x.rotateRight 25

/-- `SSIG0` (42_sha256.md R194). -/
def ssig0W32 (x : Word32) : Word32 := x.rotateRight 7 ^^^ x.rotateRight 18 ^^^ (x >>> 3)

/-- `SSIG1` (42_sha256.md R194). -/
def ssig1W32 (x : Word32) : Word32 := x.rotateRight 17 ^^^ x.rotateRight 19 ^^^ (x >>> 10)

/-- `W[0..63]` from the 16 block words (42_sha256.md R195). -/
def s256Schedule (block : List Byte) : List Word32 :=
  (sha2Expand ssig0W32 ssig1W32 48 (wordsBe32 block).reverse).reverse

/-- S256.COMPRESS(block) (42_sha256.md R195); it does not read `var` (R190). -/
def s256Compress (h : Words8 32) (block : List Byte) : Words8 32 :=
  sha2Compress bsig0W32 bsig1W32 k256 (s256Schedule block) h

/-- The initial vector under the variant (42_sha256.md R196). -/
def s256Iv (var : BitVec 1) : Words8 32 := if var = 0 then iv256 else iv224

/-- How many state words OUT emits under the variant (42_sha256.md R197). -/
def s256OutWords (var : BitVec 1) : Nat := if var = 0 then 8 else 7

/-- S256.OUT (42_sha256.md R197): the first words, most significant byte of each first. -/
def s256Out (var : BitVec 1) (h : Words8 32) : List Byte := (h.toList.take (s256OutWords var)).flatMap toBe32

/-- The SHA-224/256 engine in the shell (41_md_common.md R160). -/
def s256Shell (var : BitVec 1) : MdShell (Words8 32) where
  lf := 8
  iv := s256Iv var
  compress := s256Compress
  lenField := lenBe64
  out := s256Out var

end Sys2Proof.Machine
end

