-- ==== Sys2Proof/Machine/Sha512.lean ====
section
/-! DEFINITION. The SHA-384/512 engine (45_sha512.md). -/

namespace Sys2Proof.Machine

/-- `BSIG0_64` (45_sha512.md R264). -/
def bsig0W64 (x : Word64) : Word64 := x.rotateRight 28 ^^^ x.rotateRight 34 ^^^ x.rotateRight 39

/-- `BSIG1_64` (45_sha512.md R264). -/
def bsig1W64 (x : Word64) : Word64 := x.rotateRight 14 ^^^ x.rotateRight 18 ^^^ x.rotateRight 41

/-- `SSIG0_64` (45_sha512.md R264). -/
def ssig0W64 (x : Word64) : Word64 := x.rotateRight 1 ^^^ x.rotateRight 8 ^^^ (x >>> 7)

/-- `SSIG1_64` (45_sha512.md R264). -/
def ssig1W64 (x : Word64) : Word64 := x.rotateRight 19 ^^^ x.rotateRight 61 ^^^ (x >>> 6)

/-- `W[0..79]` from the 16 block words (45_sha512.md R265). -/
def s512Schedule (block : List Byte) : List Word64 :=
  (sha2Expand ssig0W64 ssig1W64 64 (wordsBe64 block).reverse).reverse

/-- S512.COMPRESS(block) (45_sha512.md R265); it does not read `var` (R260). -/
def s512Compress (h : Words8 64) (block : List Byte) : Words8 64 :=
  sha2Compress bsig0W64 bsig1W64 k512 (s512Schedule block) h

/-- The initial vector under the variant (45_sha512.md R267). -/
def s512Iv (var : BitVec 1) : Words8 64 := if var = 0 then iv512 else iv384

/-- How many state words OUT emits under the variant (45_sha512.md R266). -/
def s512OutWords (var : BitVec 1) : Nat := if var = 0 then 8 else 6

/-- S512.OUT (45_sha512.md R266): the first words, most significant byte of each first. -/
def s512Out (var : BitVec 1) (h : Words8 64) : List Byte := (h.toList.take (s512OutWords var)).flatMap toBe64

/-- The SHA-384/512 engine in the shell: a 16-byte length field (41_md_common.md R160, 45_sha512.md R268). -/
def s512Shell (var : BitVec 1) : MdShell (Words8 64) where
  lf := 16
  iv := s512Iv var
  compress := s512Compress
  lenField := lenBe128
  out := s512Out var

end Sys2Proof.Machine
end

