-- ==== Sys2Proof/Machine/Engines.lean ====
section
/-! DEFINITION. `RESET_e`, `ABSORB_e` and `FINAL_e` of the engine `ENGINE(SEL)` names, over the whole state
(46_facade_hex.md R291). Each touches only the record of its engine (10_state.md R36). -/

namespace Sys2Proof.Machine

/-- `RESET_e` (46_facade_hex.md R291; 70_reset_and_hazards.md R351): accumulator, counter and cursor only. -/
def resetEngine (e : Engine) (s : State) : State :=
  match e with
  | .crc8 => s.setCrc8 crc8Reset
  | .crc16 => s.setCrc16 crc16Reset
  | .crc32 => s.setCrc32 crc32Reset
  | .md5 => s.setMd5 (mdReset md5Shell s.md5)
  | .sha1 => s.setSha1 (mdReset sha1Shell s.sha1)
  | .s256 => s.setS256 (mdReset (s256Shell s.s256Var) s.s256)
  | .s512 => s.setS512 (mdReset (s512Shell s.s512Var) s.s512)

/-- `ABSORB_e(b)` (46_facade_hex.md R291). -/
def absorbEngine (e : Engine) (b : Byte) (s : State) : State :=
  match e with
  | .crc8 => s.setCrc8 (crc8Absorb s.crc8 b)
  | .crc16 => s.setCrc16 (crc16Absorb s.crc16 b)
  | .crc32 => s.setCrc32 (crc32Absorb s.crc32T s.crc32 b)
  | .md5 => s.setMd5 (mdAbsorb md5Shell s.md5 b)
  | .sha1 => s.setSha1 (mdAbsorb sha1Shell s.sha1 b)
  | .s256 => s.setS256 (mdAbsorb (s256Shell s.s256Var) s.s256 b)
  | .s512 => s.setS512 (mdAbsorb (s512Shell s.s512Var) s.s512 b)

/-- The state `FINAL_e` leaves (46_facade_hex.md R291): a CRC register is not changed (40_crc.md R133, R137, R142). -/
def finalEngine (e : Engine) (s : State) : State :=
  match e with
  | .crc8 => s
  | .crc16 => s
  | .crc32 => s
  | .md5 => s.setMd5 (mdFinal md5Shell s.md5)
  | .sha1 => s.setSha1 (mdFinal sha1Shell s.sha1)
  | .s256 => s.setS256 (mdFinal (s256Shell s.s256Var) s.s256)
  | .s512 => s.setS512 (mdFinal (s512Shell s.s512Var) s.s512)

/-- The digest bytes `FINAL_e` returns (46_facade_hex.md R291). -/
def digestEngine (e : Engine) (s : State) : List Byte :=
  match e with
  | .crc8 => crc8Final s.crc8
  | .crc16 => crc16Final s.crc16
  | .crc32 => crc32Final s.crc32
  | .md5 => mdDigest md5Shell s.md5
  | .sha1 => mdDigest sha1Shell s.sha1
  | .s256 => mdDigest (s256Shell s.s256Var) s.s256
  | .s512 => mdDigest (s512Shell s.s512Var) s.s512

end Sys2Proof.Machine
end

