-- ==== Sys2Proof/Machine/Hex.lean ====
section
/-! DEFINITION. The hex encoder (46_facade_hex.md R300 to R302). -/

namespace Sys2Proof.Machine

/-- HEXDIGIT(n): the ASCII code of `0`..`9` or `a`..`f` (46_facade_hex.md R301). -/
def hexDigit (n : BitVec 4) : Byte :=
  if n.toNat ≤ 9 then 0x30 + n.setWidth 8 else 0x61 + (n.setWidth 8 - 10)

/-- The two characters of one byte, high nibble first (46_facade_hex.md R300). -/
def hexByte (b : Byte) : List Byte := [hexDigit (b.extractLsb' 4 4), hexDigit (b.extractLsb' 0 4)]

/-- HEXENC(d): exactly two characters per byte, nothing else (46_facade_hex.md R300, R302). -/
def hexEnc (d : List Byte) : List Byte := d.flatMap hexByte

end Sys2Proof.Machine
end

