-- ==== Sys2Proof/Machine/Message.lean ====
section
/-! DEFINITION. The commands BYTE (46_facade_hex.md R293) and FINISH (R294). -/

namespace Sys2Proof.Machine

/-- The state BYTE `imm` leads to (46_facade_hex.md R293). -/
def byteCommand (imm : Byte) (s : State) : State :=
  match engineOf s.sel with
  | none => raiseUnsupported s
  | some e => completeCommand (absorbEngine e imm s) []

/-- `BYTE imm` (R293). -/
def execByteImm (imm : Byte) (s : State) : Host.Outcome State Fault Refusal := .next (byteCommand imm s)

/-- `DOUT[i] <- d[i]` for every byte of the digest, `DLEN <- DL` (46_facade_hex.md R294). -/
def storeDigest (d : List Byte) (s : State) : State :=
  (s.setDout (s.dout.writeBytes 0 d)).setDlen (BitVec.ofNat 7 d.length)

/-- The state FINISH leads to (46_facade_hex.md R294): FINAL, the digest register, RESET under the same variant,
completion with the hex string as payload. -/
def finishCommand (s : State) : State :=
  match engineOf s.sel with
  | none => raiseUnsupported s
  | some e =>
    completeCommand (resetEngine e (storeDigest (digestEngine e s) (finalEngine e s)))
      (hexEnc (digestEngine e s))

/-- `FINISH` (R294). -/
def execFinish (s : State) : Host.Outcome State Fault Refusal := .next (finishCommand s)

end Sys2Proof.Machine
end

