-- ==== Sys2Proof/Machine/New.lean ====
section
/-! DEFINITION. The command NEW (46_facade_hex.md R292), one meaning per row of the opcode table. -/

namespace Sys2Proof.Machine

/-- The writes of the variant bits: only the bit of the engine `sel` names (46_facade_hex.md R292). -/
def setVariant (sel : BitVec 4) (s : State) : State :=
  let s := match s256VarOf sel with
    | some v => s.setS256Var v
    | none => s
  match s512VarOf sel with
  | some v => s.setS512Var v
  | none => s

/-- The state NEW `sel` leads to: `SEL <- sel` always; then UnsupportedAlgorithm, or the variant bit, the engine's
reset and completion (46_facade_hex.md R292). -/
def newCommand (sel : BitVec 4) (s : State) : State :=
  match engineOf sel with
  | none => raiseUnsupported (s.setSel sel)
  | some e => completeCommand (resetEngine e (setVariant sel (s.setSel sel))) []

/-- `NEW SHA256` (R292). -/
def execNewSha256 (s : State) : Host.Outcome State Fault Refusal := .next (newCommand 0x0#4 s)

/-- `NEW MD5` (R292). -/
def execNewMd5 (s : State) : Host.Outcome State Fault Refusal := .next (newCommand 0x1#4 s)

/-- `NEW CRC32` (R292). -/
def execNewCrc32 (s : State) : Host.Outcome State Fault Refusal := .next (newCommand 0x2#4 s)

/-- `NEW CRC8` (R292). -/
def execNewCrc8 (s : State) : Host.Outcome State Fault Refusal := .next (newCommand 0x3#4 s)

/-- `NEW CRC16` (R292). -/
def execNewCrc16 (s : State) : Host.Outcome State Fault Refusal := .next (newCommand 0x4#4 s)

/-- `NEW SHA1` (R292). -/
def execNewSha1 (s : State) : Host.Outcome State Fault Refusal := .next (newCommand 0x5#4 s)

/-- `NEW SHA224` (R292). -/
def execNewSha224 (s : State) : Host.Outcome State Fault Refusal := .next (newCommand 0x6#4 s)

/-- `NEW SHA384` (R292). -/
def execNewSha384 (s : State) : Host.Outcome State Fault Refusal := .next (newCommand 0x7#4 s)

/-- `NEW SHA512` (R292). -/
def execNewSha512 (s : State) : Host.Outcome State Fault Refusal := .next (newCommand 0x8#4 s)

/-- `NEW #9` (R292): latches the selector and raises. -/
def execNewUnsupported9 (s : State) : Host.Outcome State Fault Refusal := .next (newCommand 0x9#4 s)

/-- `NEW #10..#11` (R292): latches the selector and raises. -/
def execNewUnsupportedAB (sel : BitVec 4) (s : State) : Host.Outcome State Fault Refusal :=
  .next (newCommand sel s)

/-- `NEW #12..#15` (R292): latches the selector and raises. -/
def execNewUnsupportedCF (sel : BitVec 4) (s : State) : Host.Outcome State Fault Refusal :=
  .next (newCommand sel s)

end Sys2Proof.Machine
end

