-- ==== Sys2Proof/Machine/Dispatch.lean ====
section
/-! DEFINITION. The dispatch of a decoded command to its meaning, one arm per row of spec/opcode_table.json. -/

namespace Sys2Proof.Machine

def exec (i : Instr) (s : State) : Host.Outcome State Fault Refusal :=
  match i with
  | .newSha256 => Sys2Proof.Machine.execNewSha256 s
  | .newMd5 => Sys2Proof.Machine.execNewMd5 s
  | .newCrc32 => Sys2Proof.Machine.execNewCrc32 s
  | .newCrc8 => Sys2Proof.Machine.execNewCrc8 s
  | .newCrc16 => Sys2Proof.Machine.execNewCrc16 s
  | .newSha1 => Sys2Proof.Machine.execNewSha1 s
  | .newSha224 => Sys2Proof.Machine.execNewSha224 s
  | .newSha384 => Sys2Proof.Machine.execNewSha384 s
  | .newSha512 => Sys2Proof.Machine.execNewSha512 s
  | .newUnsupported9 => Sys2Proof.Machine.execNewUnsupported9 s
  | .newUnsupportedAB sel => Sys2Proof.Machine.execNewUnsupportedAB sel s
  | .newUnsupportedCF sel => Sys2Proof.Machine.execNewUnsupportedCF sel s
  | .byteImm imm => Sys2Proof.Machine.execByteImm imm s
  | .finish => Sys2Proof.Machine.execFinish s

end Sys2Proof.Machine
end

