-- ==== Sys2Proof/Machine/Port.lean ====
section
/-! DEFINITION. The command port: taking the host's next move, running a command word, what the host can observe,
and the document's entry points as command sequences (00_scope.md R16, R17; 30_encoding.md R99 to R102). -/

namespace Sys2Proof.Machine

/-- Take the oldest move the host has pending (00_scope.md R16, R17; 10_state.md R35; log entry 2). -/
def takeMove (s : State) : Option (HostMove × State) :=
  match s.pending with
  | [] => none
  | m :: rest => some (m, s.setPending rest)

/-- Decode and execute one command word (00_scope.md R15); a reserved word is refused (30_encoding.md R95). -/
def runWord (c : Word16) (s : State) : Host.Outcome State Fault Refusal :=
  match decode c with
  | .ok i => exec i s
  | .error why => .refused (.reservedWord why)

/-- One move of the host (00_scope.md R16). -/
def runMove (m : HostMove) (s : State) : Host.Outcome State Fault Refusal :=
  match m with
  | .command c => runWord c s
  | .hardwareReset => .next (hardwareReset s)

/-- What the machine does while the host makes no move: "idle otherwise", the state unchanged (00_scope.md R16). -/
def idle (s : State) : State := s

/-- Put one command word at the front of the port (log entry 2). -/
def issueFirst (c : Word16) (s : State) : State := s.setPending (.command c :: s.pending)

/-- What the host reads between commands (00_scope.md R16). -/
structure HostView where
  err : BitVec 1
  dlen : BitVec 7
  dout : List Byte
deriving DecidableEq, Repr

/-- `ERR`, `DLEN` and `DOUT[0..DLEN-1]`; the read changes nothing (00_scope.md R16). -/
def hostView (s : State) : HostView :=
  { err := s.err, dlen := s.dlen, dout := s.dout.readBytes 0 s.dlen.toNat }

/-- The observation of a run at its end state (00_scope.md R17): the responses and the host's reads. -/
def observe (s : State) : List Response × HostView := (s.responses, hostView s)

/-- The response of the command that ran last (30_encoding.md R94). -/
def lastResponse (s : State) : Option Response := s.responses.getLast?

/-- Execute a command sequence (00_scope.md R17). -/
def runCommands : List Instr → State → Host.Outcome State Fault Refusal
  | [], s => .next s
  | i :: is, s =>
    match exec i s with
    | .next s' => runCommands is s'
    | .fault r => .fault r
    | .refused r => .refused r

/-- `UPDATE b0 .. b(n-1)`, the document's `update(state, bytes)` (30_encoding.md R99). -/
def updateSeq (m : List Byte) : List Instr := m.map .byteImm

/-- `HASH name bytes`, the document's `hash(input)` (30_encoding.md R100). -/
def hashSeq (sel : BitVec 4) (m : List Byte) : List Instr := newInstr sel :: (updateSeq m ++ [.finish])

/-- `COMPUTE_DIGEST sel bytes`, the document's `compute_digest` (30_encoding.md R101): NEW; if it raised, stop there;
otherwise UPDATE and FINISH. Its result is the last response. -/
def computeDigest (sel : BitVec 4) (m : List Byte) (s : State) : Host.Outcome State Fault Refusal :=
  match exec (newInstr sel) s with
  | .next s' =>
    if lastResponse s' = some ⟨.unsupportedAlgorithm, []⟩ then .next s'
    else runCommands (updateSeq m ++ [.finish]) s'
  | .fault r => .fault r
  | .refused r => .refused r

end Sys2Proof.Machine
end

