-- ==== Sys2Proof/Machine/Step.lean ====
section
/-! DEFINITION. One step: the host's oldest pending move, run to completion (00_scope.md R15, R16). -/

namespace Sys2Proof.Machine

/-- One step of the machine (00_scope.md R15): with a move pending, that move; with none, the core is idle (R16). -/
def step (s : State) : Host.Outcome State Fault Refusal :=
  match takeMove s with
  | none => .next (idle s)
  | some (m, s') => runMove m s'

/-- `s` with the command word of which `w` gives the low `nbits` bits issued as the host's next move (log entry 2). -/
def State.withFetchWord (s : State) (nbits w : Nat) : State := issueFirst (tableWord nbits w) s

end Sys2Proof.Machine
end

