-- ==== Sys2Proof/Machine/Assembler.lean ====
section
/-! DEFINITION. The line syntax of command sequences (30_encoding.md R98) with the pseudo-instructions UPDATE and HASH
(R99, R100): what a host tool reads and writes, no part of the core. COMPUTE_DIGEST depends on a response (R101), so it
is no fixed sequence of words; `computeDigest` runs it. Points R98 leaves open: log entry 8. -/

namespace Sys2Proof.Machine

/-- The characters of one line. -/
abbrev Line := List Char

/-- The quotation mark of `BYTE '<c>'` (R98). -/
def quoteMark : Char := Char.ofNat 0x27

/-- The line without the spaces it starts with. -/
def skipSpaces : Line → Line
  | [] => []
  | c :: rest => if c = ' ' then skipSpaces rest else c :: rest

/-- A word of the line ends here: at its end, before a space, or before a comment. -/
def atWordEnd : Line → Bool
  | [] => true
  | c :: _ => decide (c = ' ' ∨ c = ';')

/-- Nothing but spaces and a comment is left (R98). -/
def nothingLeft (l : Line) : Bool :=
  match skipSpaces l with
  | [] => true
  | c :: _ => decide (c = ';')

/-- What follows the characters `k` at the start of the line. -/
def afterChars : List Char → Line → Option Line
  | [], l => some l
  | _ :: _, [] => none
  | k :: ks, c :: cs => if k = c then afterChars ks cs else none

/-- What follows the word `k` at the start of the line. -/
def afterWord (k : List Char) (l : Line) : Option Line :=
  match afterChars k l with
  | none => none
  | some rest => if atWordEnd rest then some rest else none

/-- The nine selector names (R92), then the raw 4-bit values (R98). -/
def selectorNames : List (List Char × BitVec 4) :=
  [(['S', 'H', 'A', '2', '5', '6'], 0x0), (['M', 'D', '5'], 0x1), (['C', 'R', 'C', '3', '2'], 0x2),
   (['C', 'R', 'C', '8'], 0x3), (['C', 'R', 'C', '1', '6'], 0x4), (['S', 'H', 'A', '1'], 0x5),
   (['S', 'H', 'A', '2', '2', '4'], 0x6), (['S', 'H', 'A', '3', '8', '4'], 0x7), (['S', 'H', 'A', '5', '1', '2'], 0x8)] ++
  [(['#', '0'], 0x0), (['#', '1'], 0x1), (['#', '2'], 0x2), (['#', '3'], 0x3), (['#', '4'], 0x4), (['#', '5'], 0x5),
   (['#', '6'], 0x6), (['#', '7'], 0x7), (['#', '8'], 0x8), (['#', '9'], 0x9), (['#', '1', '0'], 0xA),
   (['#', '1', '1'], 0xB), (['#', '1', '2'], 0xC), (['#', '1', '3'], 0xD), (['#', '1', '4'], 0xE), (['#', '1', '5'], 0xF)]

/-- The selector a line starts with, by the rows of `names`, and what follows it (R98). -/
def selectorOperand (names : List (List Char × BitVec 4)) (l : Line) : Option (BitVec 4 × Line) :=
  match names with
  | [] => none
  | (name, sel) :: more =>
    match afterWord name l with
    | some rest => some (sel, rest)
    | none => selectorOperand more l

/-- The value of a hexadecimal digit of either case (R98: "two hexadecimal digits"). -/
def digitValue (c : Char) : Option (BitVec 4) :=
  if 0x30 ≤ c.toNat ∧ c.toNat ≤ 0x39 then some (BitVec.ofNat 4 (c.toNat - 0x30))
  else if 0x61 ≤ c.toNat ∧ c.toNat ≤ 0x66 then some (BitVec.ofNat 4 (c.toNat - 0x61 + 10))
  else if 0x41 ≤ c.toNat ∧ c.toNat ≤ 0x46 then some (BitVec.ofNat 4 (c.toNat - 0x41 + 10))
  else none

/-- The ASCII code of a printable character (R98). -/
def printableCode (c : Char) : Option Byte :=
  if 0x20 ≤ c.toNat ∧ c.toNat ≤ 0x7E then some (BitVec.ofNat 8 c.toNat) else none

/-- A character constant, after its opening quotation mark (R98). -/
def quotedOperand : Line → Option (Byte × Line)
  | c :: q :: rest =>
    if q = quoteMark then (printableCode c).map fun b => (b, rest) else none
  | _ => none

/-- A hexadecimal constant, after its `0x` (R98). -/
def hexOperand : Line → Option (Byte × Line)
  | h :: l :: rest =>
    match digitValue h, digitValue l with
    | some x, some y => some (x ++ y, rest)
    | _, _ => none
  | _ => none

/-- One byte operand: `0x<hh>` or a quoted printable character, ending a word of the line (R98). -/
def byteOperand (l : Line) : Option (Byte × Line) :=
  let read := match afterChars [quoteMark] l with
    | some rest => quotedOperand rest
    | none => (afterChars ['0', 'x'] l).bind hexOperand
  match read with
  | some (b, rest) => if atWordEnd rest then some (b, rest) else none
  | none => none

/-- The byte operands up to the end of the line or its comment, at most `n` of them (R98, R99). -/
def byteOperands : Nat → Line → Option (List Byte)
  | 0, l => if nothingLeft l then some [] else none
  | n + 1, l =>
    if nothingLeft l then some []
    else
      match byteOperand (skipSpaces l) with
      | some (b, rest) => (byteOperands n rest).map (b :: ·)
      | none => none

/-- The operands of NEW: a selector, then nothing. -/
def newOperands (l : Line) : Option (BitVec 4) :=
  match selectorOperand selectorNames (skipSpaces l) with
  | some (sel, rest) => if nothingLeft rest then some sel else none
  | none => none

/-- The operand of BYTE: one byte, then nothing. -/
def oneByte (l : Line) : Option Byte :=
  match byteOperands 1 l with
  | some [b] => some b
  | _ => none

/-- The commands a line stands for: none for an empty line or a comment, one for NEW, BYTE and FINISH (R98), the
expansion for UPDATE (R99) and HASH, whose name is one of the nine (R100). `none` where the line has no such form. -/
def assembleLine (line : Line) : Option (List Instr) :=
  let l := skipSpaces line
  if nothingLeft l then some []
  else
    match afterWord ['N', 'E', 'W'] l with
    | some r => (newOperands r).map fun sel => [newInstr sel]
    | none =>
      match afterWord ['B', 'Y', 'T', 'E'] l with
      | some r => (oneByte r).map fun b => [.byteImm b]
      | none =>
        match afterWord ['F', 'I', 'N', 'I', 'S', 'H'] l with
        | some r => if nothingLeft r then some [.finish] else none
        | none =>
          match afterWord ['U', 'P', 'D', 'A', 'T', 'E'] l with
          | some r => (byteOperands r.length r).map updateSeq
          | none =>
            match afterWord ['H', 'A', 'S', 'H'] l with
            | some r =>
              match selectorOperand (selectorNames.take 9) (skipSpaces r) with
              | some (sel, rest) => (byteOperands rest.length rest).map (hashSeq sel)
              | none => none
            | none => none

/-- The commands of a program, line by line (R98). -/
def assemble : List Line → Option (List Instr)
  | [] => some []
  | line :: lines =>
    match assembleLine line, assemble lines with
    | some is, some js => some (is ++ js)
    | _, _ => none

/-- How a selector is written: its name, or its raw value for the unsupported ones (R98). -/
def selectorText (sel : BitVec 4) : Line :=
  match (selectorNames.take 9 ++ selectorNames.drop 18).find? fun row => row.2 == sel with
  | some row => row.1
  | none => []

/-- The line of a command (R98). -/
def lineOf : Instr → Line
  | .newSha256 => ['N', 'E', 'W', ' '] ++ selectorText 0x0
  | .newMd5 => ['N', 'E', 'W', ' '] ++ selectorText 0x1
  | .newCrc32 => ['N', 'E', 'W', ' '] ++ selectorText 0x2
  | .newCrc8 => ['N', 'E', 'W', ' '] ++ selectorText 0x3
  | .newCrc16 => ['N', 'E', 'W', ' '] ++ selectorText 0x4
  | .newSha1 => ['N', 'E', 'W', ' '] ++ selectorText 0x5
  | .newSha224 => ['N', 'E', 'W', ' '] ++ selectorText 0x6
  | .newSha384 => ['N', 'E', 'W', ' '] ++ selectorText 0x7
  | .newSha512 => ['N', 'E', 'W', ' '] ++ selectorText 0x8
  | .newUnsupported9 => ['N', 'E', 'W', ' '] ++ selectorText 0x9
  | .newUnsupportedAB sel => ['N', 'E', 'W', ' '] ++ selectorText sel
  | .newUnsupportedCF sel => ['N', 'E', 'W', ' '] ++ selectorText sel
  | .byteImm imm => ['B', 'Y', 'T', 'E', ' ', '0', 'x'] ++ (hexByte imm).map fun d => Char.ofNat d.toNat
  | .finish => ['F', 'I', 'N', 'I', 'S', 'H']

end Sys2Proof.Machine
end

