-- ==== Sys2Proof/Machine/Whole.lean ====
section
/-! DEFINITION. The digest as a function of the whole message (41_md_common.md R165; 40_crc.md R130), and the digest
lengths (00_scope.md R7). The commands do not use these: they are the other side of the claims. -/

namespace Sys2Proof.Machine

/-- `z = (BS - LF - 1 - n) mod BS`, the number of zero bytes of the padding (41_md_common.md R165). -/
def padZeros (bs lf n : Nat) : Nat := (((bs : Int) - lf - 1 - n) % bs).toNat

/-- What the padding appends to a message of `n` bytes: `0x80 || 0x00^z || LEN_e(8n)` (41_md_common.md R165). The
64-bit count is `8n` modulo 2^64 (70_reset_and_hazards.md R359). -/
def padSuffix {σ : Type} (bs : Nat) (sh : MdShell σ) (n : Nat) : List Byte :=
  0x80 :: (List.replicate (padZeros bs sh.lf n) 0x00 ++ sh.lenField (BitVec.ofNat 64 (8 * n)))

/-- `pad_e(M)` (41_md_common.md R165). -/
def padMessage {σ : Type} (bs : Nat) (sh : MdShell σ) (m : List Byte) : List Byte :=
  m ++ padSuffix bs sh m.length

/-- The consecutive `bs`-byte pieces of a byte sequence (41_md_common.md R165). -/
def blocksOf (bs : Nat) (l : List Byte) : List (List Byte) :=
  (List.range (l.length / bs)).map fun k => (l.drop (k * bs)).take bs

/-- The Merkle–Damgård digest of a whole message: COMPRESS folded over the blocks of the padded message from the
initial vector, then OUT (41_md_common.md R165). -/
def wholeMd {σ : Type} (bs : Nat) (sh : MdShell σ) (m : List Byte) : List Byte :=
  sh.out ((blocksOf bs (padMessage bs sh m)).foldl sh.compress sh.iv)

/-- The digest of a message under a selector (30_encoding.md R92; 40_crc.md R130; 41_md_common.md R165); no bytes
for a selector that names no engine. -/
def wholeDigest (sel : BitVec 4) (m : List Byte) : List Byte :=
  match sel with
  | 0x0#4 => wholeMd 64 (s256Shell 0) m
  | 0x1#4 => wholeMd 64 md5Shell m
  | 0x2#4 => crc32Final (m.foldl (crc32Absorb crc32Table) crc32Reset)
  | 0x3#4 => crc8Final (m.foldl crc8Absorb crc8Reset)
  | 0x4#4 => crc16Final (m.foldl crc16Absorb crc16Reset)
  | 0x5#4 => wholeMd 64 sha1Shell m
  | 0x6#4 => wholeMd 64 (s256Shell 1) m
  | 0x7#4 => wholeMd 128 (s512Shell 1) m
  | 0x8#4 => wholeMd 128 (s512Shell 0) m
  | _ => []

/-- DL, the digest length in bytes under a selector (00_scope.md R7; 46_facade_hex.md R294). -/
def digestBytes (sel : BitVec 4) : Nat :=
  match sel with
  | 0x0#4 => 32
  | 0x1#4 => 16
  | 0x2#4 => 4
  | 0x3#4 => 1
  | 0x4#4 => 2
  | 0x5#4 => 20
  | 0x6#4 => 28
  | 0x7#4 => 48
  | 0x8#4 => 64
  | _ => 0

/-- One lowercase hexadecimal character read back as a nibble. -/
def hexValue (c : Byte) : Option (BitVec 4) :=
  if 0x30 ≤ c ∧ c ≤ 0x39 then some ((c - 0x30).setWidth 4)
  else if 0x61 ≤ c ∧ c ≤ 0x66 then some ((c - 0x61 + 10).setWidth 4)
  else none

/-- Decoding a hex string back to bytes: "two characters per byte, high nibble first" (46_facade_hex.md R302). -/
def hexDec : List Byte → Option (List Byte)
  | [] => some []
  | [_] => none
  | c :: d :: rest =>
    match hexValue c, hexValue d, hexDec rest with
    | some x, some y, some bs => some ((x ++ y) :: bs)
    | _, _, _ => none

end Sys2Proof.Machine
end

