-- ==== Sys2Proof/Safety.lean ====
section
/-! DEFINITION. The terms the claims use: the invariant every step keeps, runs that never stop, what the final blocks
of a message are, and when two states look alike to the host. -/

namespace Sys2Proof

/-! ### Kinds of commands -/

/-- A selector that names an engine (30_encoding.md R92). -/
abbrev supported (sel : BitVec 4) : Prop := sel.toNat ≤ 8

/-- A NEW whose selector names an engine, a BYTE or a FINISH: the commands of 60_exceptions.md R325. -/
def Instr.isSupported : Instr → Prop
  | .newSha256 => True
  | .newMd5 => True
  | .newCrc32 => True
  | .newCrc8 => True
  | .newCrc16 => True
  | .newSha1 => True
  | .newSha224 => True
  | .newSha384 => True
  | .newSha512 => True
  | .newUnsupported9 => False
  | .newUnsupportedAB sel => supported sel
  | .newUnsupportedCF sel => supported sel
  | .byteImm _ => True
  | .finish => True

/-- Is the command a NEW? The others, BYTE and FINISH, work on the engine `SEL` names. -/
def Instr.isNew : Instr → Bool
  | .newSha256 => true
  | .newMd5 => true
  | .newCrc32 => true
  | .newCrc8 => true
  | .newCrc16 => true
  | .newSha1 => true
  | .newSha224 => true
  | .newSha384 => true
  | .newSha512 => true
  | .newUnsupported9 => true
  | .newUnsupportedAB _ => true
  | .newUnsupportedCF _ => true
  | .byteImm _ => false
  | .finish => false

namespace Machine

/-! ### The invariant -/

/-- What holds of a Merkle–Damgård record between commands: `cnt` is 8 × the bytes absorbed modulo 2^64 and `cur` that
number modulo BS (10_state.md R27, R28), and the buffer is in canonical form within its `2 ^ cw` indices (R29). -/
structure MdInv {σ : Type} {cw : Nat} (e : MdRecord σ cw) : Prop where
  cntBytes : e.cnt.toNat % 8 = 0
  curBytes : e.cur.toNat = e.cnt.toNat / 8 % 2 ^ cw
  bufWf : e.buf.wf (2 ^ cw)

/-- What holds of the whole state between commands. -/
structure State.Inv (s : State) : Prop where
  /-- Nothing ever writes `crc32.T` (10_state.md R32). -/
  table : s.crc32T = crc32Table
  /-- `DOUT` is in canonical form within indices 0 to 63 (20_memory.md R60). -/
  doutWf : s.dout.wf Config.doutBytes
  /-- `DLEN` is at most the size of `DOUT` (10_state.md R23). -/
  dlenLe : s.dlen.toNat ≤ Config.doutBytes
  md5 : MdInv s.md5
  sha1 : MdInv s.sha1
  s256 : MdInv s.s256
  s512 : MdInv s.s512
  /-- While `SEL` is SHA256 or SHA224, `s256.var` says which (10_state.md R24). -/
  var256 : (s.sel = 0x0 → s.s256Var = 0) ∧ (s.sel = 0x6 → s.s256Var = 1)
  /-- While `SEL` is SHA512 or SHA384, `s512.var` says which (10_state.md R24). -/
  var512 : (s.sel = 0x8 → s.s512Var = 0) ∧ (s.sel = 0x7 → s.s512Var = 1)
  /-- `ERR` is the status of the last response (30_encoding.md R94, 10_state.md R22). -/
  lastStatus : ∀ r, s.responses.getLast? = some r → s.err = statusCode r.status

/-! ### Safe runs -/

/-- The words that decode, by their fields as numbers (30_encoding.md R95). -/
abbrev decodableWord (c : Word16) : Prop :=
  (c.toNat / 4096 = 1 ∧ c.toNat % 256 = 0) ∨ c.toNat / 256 = 0x20 ∨ c.toNat = 0x3000

/-- The host issues decodable command words only (30_encoding.md R95, 70_reset_and_hazards.md R357). -/
def safeHost (s : State) : Prop := ∀ c, HostMove.command c ∈ s.pending → decodableWord c

/-! ### Absorbing and finishing, in terms of the bytes of the buffer -/

/-- MD.ABSORB(e, b) in terms of the reads of the buffer (41_md_common.md R162): `e'` is what it leaves of `e`. -/
structure Absorbed {σ : Type} {cw : Nat} (compress : σ → List Byte → σ) (b : Byte) (e e' : MdRecord σ cw) :
    Prop where
  cnt : e'.cnt = e.cnt + 8
  buf : ∀ a, e'.buf.read a = if a = e.cur.toNat then b else e.buf.read a
  partialBlock : e.cur.toNat ≠ 2 ^ cw - 1 → e'.cur.toNat = e.cur.toNat + 1 ∧ e'.h = e.h
  fullBlock : e.cur.toNat = 2 ^ cw - 1 →
    e'.cur = 0 ∧ e'.h = compress e.h ((List.range (2 ^ cw)).map e'.buf.read)

/-- The message bytes the buffer holds: indices 0 to `cur`-1 (10_state.md R29). -/
def heldBytes {σ : Type} {cw : Nat} (e : MdRecord σ cw) : List Byte := (List.range e.cur.toNat).map e.buf.read

/-- The bytes FINAL compresses: the held bytes, the pad byte, zeros, the length field of the count
(41_md_common.md R163). -/
def finalBytes {σ : Type} {cw : Nat} (sh : MdShell σ) (e : MdRecord σ cw) : List Byte :=
  heldBytes e ++ 0x80 ::
    (List.replicate (padZeros (2 ^ cw) sh.lf e.cur.toNat) 0x00 ++ sh.lenField e.cnt)

/-- The digest of FINAL: OUT of the state after one or two COMPRESS (41_md_common.md R163). -/
def finalDigest {σ : Type} {cw : Nat} (sh : MdShell σ) (e : MdRecord σ cw) : List Byte :=
  sh.out ((blocksOf (2 ^ cw) (finalBytes sh e)).foldl sh.compress e.h)

/-- What FINISH leaves of the record of a Merkle–Damgård engine (46_facade_hex.md R294): the accumulator, counter and
cursor of an engine reset under initial vector `iv`, and in the buffer the last block FINAL compressed
(70_reset_and_hazards.md R351: the reset does not touch it). -/
structure Finished {σ : Type} {cw : Nat} (sh : MdShell σ) (iv : σ) (e e' : MdRecord σ cw) : Prop where
  h : e'.h = iv
  cnt : e'.cnt = 0
  cur : e'.cur = 0
  lastBlock : ∀ a, a < 2 ^ cw →
    e'.buf.read a = (finalBytes sh e).getD ((finalBytes sh e).length - 2 ^ cw + a) 0
  outside : ∀ a, 2 ^ cw ≤ a → e'.buf.read a = e.buf.read a

/-- `DOUT` after the digest `d` is written to it: `DOUT[i] = d[i]` below the digest's length, the other bytes as before
(46_facade_hex.md R294). -/
def DigestStored (d : List Byte) (dout dout' : Memory) : Prop :=
  ∀ a, dout'.read a = if a < d.length then d.getD a 0 else dout.read a

/-! ### What the host and a computation can see -/

/-- Two records agree on what a rule can read of them: the bytes at or above the cursor may differ (10_state.md R29). -/
structure SameRecord {σ : Type} {cw : Nat} (e f : MdRecord σ cw) : Prop where
  h : e.h = f.h
  cnt : e.cnt = f.cnt
  cur : e.cur = f.cur
  buf : ∀ a, a < e.cur.toNat → e.buf.read a = f.buf.read a

/-- The records of the engine agree; nothing is asked of the other engines (10_state.md R36). -/
def sameEngine (e : Engine) (s t : State) : Prop :=
  match e with
  | .crc8 => s.crc8 = t.crc8
  | .crc16 => s.crc16 = t.crc16
  | .crc32 => s.crc32 = t.crc32
  | .md5 => SameRecord s.md5 t.md5
  | .sha1 => SameRecord s.sha1 t.sha1
  | .s256 => s.s256Var = t.s256Var ∧ SameRecord s.s256 t.s256
  | .s512 => s.s512Var = t.s512Var ∧ SameRecord s.s512 t.s512

/-- Two states alike to the host and to the computation in progress: the façade's registers, the specified bytes of
`DOUT` (10_state.md R23), the table, the port, and the record of the selected engine alone (R36). -/
structure Alike (s t : State) : Prop where
  sel : s.sel = t.sel
  err : s.err = t.err
  dlen : s.dlen = t.dlen
  dout : ∀ a, a < s.dlen.toNat → s.dout.read a = t.dout.read a
  table : s.crc32T = t.crc32T
  pending : s.pending = t.pending
  responses : s.responses = t.responses
  engine : ∀ e, engineOf s.sel = some e → sameEngine e s t

end Machine

end Sys2Proof
end

