-- ==== Sys2Proof/Certificates/Slice0/Obligations.lean ====
section
/-! DEFINITION. The statements about the model, for the provers. Each docstring names the rule of spec/ it rests on; a
statement that rests on a choice of the model says so. -/

open Sys2Proof Sys2Proof.Machine

/-- Decode and encode agree on every well-formed command (30_encoding.md R90 to R93, R96). -/
def Obligations.DecodeOfEncodeIsTheCommand : Prop :=
    ∀ i : Instr, i.wellFormed = true → decode (encode i) = .ok i

/-- A word that decodes is the one encoding of a well-formed command: "every behaviour has exactly one encoding"
(92_eei_decisions.md D2; 30_encoding.md R95). -/
def Obligations.DecodedWordIsTheEncoding : Prop :=
    ∀ (c : Word16) (i : Instr), decode c = .ok i → i.wellFormed = true ∧ encode i = c

/-- The opcode map of 30_encoding.md R96, its fourteen match/mask pairs written out: a word decodes exactly when it
matches a row, to a command of that row, and no two rows overlap. -/
def Obligations.DecodeFollowsTheOpcodeMap : Prop :=
    (∀ c : Word16, (∃ i, decode c = .ok i) ↔
      ∃ j : Instr, j.wellFormed = true ∧ c &&& (tableRow j).2 = (tableRow j).1) ∧
    (∀ (c : Word16) (i j : Instr), decode c = .ok i → j.wellFormed = true →
      c &&& (tableRow j).2 = (tableRow j).1 → tableRow i = tableRow j) ∧
    ((tableRow .newSha256, tableRow .newMd5, tableRow .newCrc32, tableRow .newCrc8, tableRow .newCrc16) =
      ((0x1000, 0xFFFF), (0x1100, 0xFFFF), (0x1200, 0xFFFF), (0x1300, 0xFFFF), (0x1400, 0xFFFF))) ∧
    ((tableRow .newSha1, tableRow .newSha224, tableRow .newSha384, tableRow .newSha512,
        tableRow .newUnsupported9) =
      ((0x1500, 0xFFFF), (0x1600, 0xFFFF), (0x1700, 0xFFFF), (0x1800, 0xFFFF), (0x1900, 0xFFFF))) ∧
    (∀ (sel : BitVec 4) (imm : Byte),
      (tableRow (.newUnsupportedAB sel), tableRow (.newUnsupportedCF sel), tableRow (.byteImm imm),
          tableRow .finish) =
        ((0x1A00, 0xFEFF), (0x1C00, 0xFCFF), (0x2000, 0xFF00), (0x3000, 0xFFFF)))

/-- Sample words of 95_test_vectors.md section 2. -/
def Obligations.SampleWordsDecode : Prop :=
    decode 0x1000 = .ok .newSha256 ∧ decode 0x1100 = .ok .newMd5 ∧ decode 0x1200 = .ok .newCrc32 ∧
    decode 0x1300 = .ok .newCrc8 ∧ decode 0x1400 = .ok .newCrc16 ∧ decode 0x1500 = .ok .newSha1 ∧
    decode 0x1600 = .ok .newSha224 ∧ decode 0x1700 = .ok .newSha384 ∧ decode 0x1800 = .ok .newSha512 ∧
    decode 0x1900 = .ok .newUnsupported9 ∧ decode 0x1A00 = .ok (.newUnsupportedAB 0xA) ∧
    decode 0x1F00 = .ok (.newUnsupportedCF 0xF) ∧ decode 0x2061 = .ok (.byteImm 0x61) ∧
    decode 0x2080 = .ok (.byteImm 0x80) ∧ decode 0x3000 = .ok .finish

/-- Exactly the reserved words are refused (30_encoding.md R95, the refusal it tells a model to give; 60_exceptions.md
R324). The port the words stand in is the model's own (log entry 2). -/
def Obligations.ReservedWordsAreRefused : Prop :=
    ∀ (s : State) (c : Word16) (rest : List HostMove), s.pending = .command c :: rest →
    ((∃ why, step s = .refused (.reservedWord why)) ↔
      ¬ ((c.toNat / 4096 = 1 ∧ c.toNat % 256 = 0) ∨
         (c.toNat / 4096 = 2 ∧ c.toNat / 256 % 16 = 0) ∨
         (c.toNat / 4096 = 3 ∧ c.toNat / 256 % 16 = 0 ∧ c.toNat % 256 = 0)))

/-- One step is one command run to completion (00_scope.md R15). The port is the model's own (DESIGN CHOICE, log entry
2). -/
def Obligations.StepRunsTheDecodedCommand : Prop :=
    ∀ (s : State) (i : Instr) (c : Word16) (rest : List HostMove), s.pending = .command c :: rest →
    decode c = .ok i → step s = exec i (s.setPending rest)

/-- The core "is idle otherwise" (00_scope.md R16); that an idle step is a step is the model's choice (DESIGN CHOICE,
log entry 2). -/
def Obligations.NoMoveMeansNoChange : Prop :=
    ∀ s : State, s.pending = [] → step s = .next s

/-- Hardware reset (70_reset_and_hazards.md R350), every item with a stated value; nothing is said of the items R350
leaves unspecified. -/
def Obligations.ResetLeavesTheStatedValues : Prop :=
    State.reset.sel = 0xF ∧ State.reset.err = 0 ∧ State.reset.dlen = 0 ∧ State.reset.s256Var = 0 ∧ State.reset.s512Var = 0 ∧
    State.reset.crc8 = 0x00 ∧ State.reset.crc16 = 0x0000 ∧ State.reset.crc32 = 0xFFFFFFFF ∧
    State.reset.md5.h = ⟨0x67452301, 0xefcdab89, 0x98badcfe, 0x10325476⟩ ∧
    State.reset.sha1.h = ⟨0x67452301, 0xefcdab89, 0x98badcfe, 0x10325476, 0xc3d2e1f0⟩ ∧
    State.reset.s256.h = ⟨0x6a09e667, 0xbb67ae85, 0x3c6ef372, 0xa54ff53a,
      0x510e527f, 0x9b05688c, 0x1f83d9ab, 0x5be0cd19⟩ ∧
    State.reset.s512.h = ⟨0x6a09e667f3bcc908, 0xbb67ae8584caa73b, 0x3c6ef372fe94f82b, 0xa54ff53a5f1d36f1,
      0x510e527fade682d1, 0x9b05688c2b3e6c1f, 0x1f83d9abfb41bd6b, 0x5be0cd19137e2179⟩ ∧
    State.reset.md5.cnt = 0 ∧ State.reset.sha1.cnt = 0 ∧ State.reset.s256.cnt = 0 ∧ State.reset.s512.cnt = 0 ∧
    State.reset.md5.cur = 0 ∧ State.reset.sha1.cur = 0 ∧ State.reset.s256.cur = 0 ∧ State.reset.s512.cur = 0 ∧
    (∀ (n : Nat) (h : n < 256), State.reset.crc32T[n] = (fun c : Word32 =>
      if c.getLsbD 0 then (c >>> 1) ^^^ 0xEDB88320 else c >>> 1)^[8] (BitVec.ofNat 32 n))

/-- Hardware reset as a move of the host (00_scope.md R16, 70_reset_and_hazards.md R350). That it empties the response
channel and leaves the other moves pending is the model's choice (DESIGN CHOICE, log entries 2 and 3). -/
def Obligations.HardwareResetMoveResets : Prop :=
    ∀ (s : State) (rest : List HostMove), s.pending = .hardwareReset :: rest →
    ∃ t, step s = .next t ∧ t.pending = rest ∧ t.responses = [] ∧
    t.sel = 0xF ∧ t.err = 0 ∧ t.dlen = 0 ∧ t.s256Var = 0 ∧ t.s512Var = 0 ∧
    t.crc8 = 0x00 ∧ t.crc16 = 0x0000 ∧ t.crc32 = 0xFFFFFFFF ∧
    t.md5.h = ⟨0x67452301, 0xefcdab89, 0x98badcfe, 0x10325476⟩ ∧
    t.sha1.h = ⟨0x67452301, 0xefcdab89, 0x98badcfe, 0x10325476, 0xc3d2e1f0⟩ ∧
    t.s256.h = ⟨0x6a09e667, 0xbb67ae85, 0x3c6ef372, 0xa54ff53a,
      0x510e527f, 0x9b05688c, 0x1f83d9ab, 0x5be0cd19⟩ ∧
    t.s512.h = ⟨0x6a09e667f3bcc908, 0xbb67ae8584caa73b, 0x3c6ef372fe94f82b, 0xa54ff53a5f1d36f1,
      0x510e527fade682d1, 0x9b05688c2b3e6c1f, 0x1f83d9abfb41bd6b, 0x5be0cd19137e2179⟩ ∧
    t.md5.cnt = 0 ∧ t.sha1.cnt = 0 ∧ t.s256.cnt = 0 ∧ t.s512.cnt = 0 ∧
    t.md5.cur = 0 ∧ t.sha1.cur = 0 ∧ t.s256.cur = 0 ∧ t.s512.cur = 0 ∧
    (∀ (n : Nat) (h : n < 256), t.crc32T[n] = (fun c : Word32 =>
      if c.getLsbD 0 then (c >>> 1) ^^^ 0xEDB88320 else c >>> 1)^[8] (BitVec.ofNat 32 n))

/-- All 256 entries of the table, row r holding entries 8r to 8r+7 (40_crc.md R139), and its two checksums
(95_test_vectors.md section 3.3). -/
def Obligations.Crc32TableIsTheListedTable : Prop :=
    let rows : List Nat := [
      0x00000000_77073096_ee0e612c_990951ba_076dc419_706af48f_e963a535_9e6495a3,
      0x0edb8832_79dcb8a4_e0d5e91e_97d2d988_09b64c2b_7eb17cbd_e7b82d07_90bf1d91,
      0x1db71064_6ab020f2_f3b97148_84be41de_1adad47d_6ddde4eb_f4d4b551_83d385c7,
      0x136c9856_646ba8c0_fd62f97a_8a65c9ec_14015c4f_63066cd9_fa0f3d63_8d080df5,
      0x3b6e20c8_4c69105e_d56041e4_a2677172_3c03e4d1_4b04d447_d20d85fd_a50ab56b,
      0x35b5a8fa_42b2986c_dbbbc9d6_acbcf940_32d86ce3_45df5c75_dcd60dcf_abd13d59,
      0x26d930ac_51de003a_c8d75180_bfd06116_21b4f4b5_56b3c423_cfba9599_b8bda50f,
      0x2802b89e_5f058808_c60cd9b2_b10be924_2f6f7c87_58684c11_c1611dab_b6662d3d,
      0x76dc4190_01db7106_98d220bc_efd5102a_71b18589_06b6b51f_9fbfe4a5_e8b8d433,
      0x7807c9a2_0f00f934_9609a88e_e10e9818_7f6a0dbb_086d3d2d_91646c97_e6635c01,
      0x6b6b51f4_1c6c6162_856530d8_f262004e_6c0695ed_1b01a57b_8208f4c1_f50fc457,
      0x65b0d9c6_12b7e950_8bbeb8ea_fcb9887c_62dd1ddf_15da2d49_8cd37cf3_fbd44c65,
      0x4db26158_3ab551ce_a3bc0074_d4bb30e2_4adfa541_3dd895d7_a4d1c46d_d3d6f4fb,
      0x4369e96a_346ed9fc_ad678846_da60b8d0_44042d73_33031de5_aa0a4c5f_dd0d7cc9,
      0x5005713c_270241aa_be0b1010_c90c2086_5768b525_206f85b3_b966d409_ce61e49f,
      0x5edef90e_29d9c998_b0d09822_c7d7a8b4_59b33d17_2eb40d81_b7bd5c3b_c0ba6cad,
      0xedb88320_9abfb3b6_03b6e20c_74b1d29a_ead54739_9dd277af_04db2615_73dc1683,
      0xe3630b12_94643b84_0d6d6a3e_7a6a5aa8_e40ecf0b_9309ff9d_0a00ae27_7d079eb1,
      0xf00f9344_8708a3d2_1e01f268_6906c2fe_f762575d_806567cb_196c3671_6e6b06e7,
      0xfed41b76_89d32be0_10da7a5a_67dd4acc_f9b9df6f_8ebeeff9_17b7be43_60b08ed5,
      0xd6d6a3e8_a1d1937e_38d8c2c4_4fdff252_d1bb67f1_a6bc5767_3fb506dd_48b2364b,
      0xd80d2bda_af0a1b4c_36034af6_41047a60_df60efc3_a867df55_316e8eef_4669be79,
      0xcb61b38c_bc66831a_256fd2a0_5268e236_cc0c7795_bb0b4703_220216b9_5505262f,
      0xc5ba3bbe_b2bd0b28_2bb45a92_5cb36a04_c2d7ffa7_b5d0cf31_2cd99e8b_5bdeae1d,
      0x9b64c2b0_ec63f226_756aa39c_026d930a_9c0906a9_eb0e363f_72076785_05005713,
      0x95bf4a82_e2b87a14_7bb12bae_0cb61b38_92d28e9b_e5d5be0d_7cdcefb7_0bdbdf21,
      0x86d3d2d4_f1d4e242_68ddb3f8_1fda836e_81be16cd_f6b9265b_6fb077e1_18b74777,
      0x88085ae6_ff0f6a70_66063bca_11010b5c_8f659eff_f862ae69_616bffd3_166ccf45,
      0xa00ae278_d70dd2ee_4e048354_3903b3c2_a7672661_d06016f7_4969474d_3e6e77db,
      0xaed16a4a_d9d65adc_40df0b66_37d83bf0_a9bcae53_debb9ec5_47b2cf7f_30b5ffe9,
      0xbdbdf21c_cabac28a_53b39330_24b4a3a6_bad03605_cdd70693_54de5729_23d967bf,
      0xb3667a2e_c4614ab8_5d681b02_2a6f2b94_b40bbe37_c30c8ea1_5a05df1b_2d02ef8d]
    (∀ (n : Nat) (h : n < 256),
      State.reset.crc32T[n].toNat = rows.getD (n / 8) 0 / 2 ^ (32 * (7 - n % 8)) % 2 ^ 32) ∧
    State.reset.crc32T.toList.foldl (· ^^^ ·) 0 = 0 ∧
    State.reset.crc32T.toList.foldl (· + ·) 0 = 0xffffff80

/-- The constants by their mathematical definitions (42_sha256.md R191 to R193, 43_sha1.md R222, 45_sha512.md R261 to
R263), as the initial vectors the engines load under each variant and the round constants of the SHA-1 phases. -/
def Obligations.ConstantsAreFractionsOfRoots : Prop :=
    let primes : List Nat := [2, 3, 5, 7, 11, 13, 17, 19, 23, 29, 31, 37, 41, 43, 47, 53, 59, 61, 67, 71, 73, 79, 83, 89,
      97, 101, 103, 107, 109, 113, 127, 131, 137, 139, 149, 151, 157, 163, 167, 173, 179, 181, 191, 193, 197, 199,
      211, 223, 227, 229, 233, 239, 241, 251, 257, 263, 269, 271, 277, 281, 283, 293, 307, 311, 313, 317, 331, 337,
      347, 349, 353, 359, 367, 373, 379, 383, 389, 397, 401, 409]
    let isFraction (deg bits p x : Nat) : Prop :=
      ∃ a < 8, (a * 2 ^ bits + x) ^ deg ≤ p * 2 ^ (deg * bits) ∧ p * 2 ^ (deg * bits) < (a * 2 ^ bits + x + 1) ^ deg
    k512.length = 80 ∧ k256.length = 64 ∧
    (∀ px ∈ primes.zip k512, isFraction 3 64 px.1 px.2.toNat) ∧
    (∀ px ∈ (primes.take 64).zip k256, isFraction 3 32 px.1 px.2.toNat) ∧
    (∀ px ∈ (primes.take 8).zip (s512Shell 0).iv.toList, isFraction 2 64 px.1 px.2.toNat) ∧
    (∀ px ∈ (primes.take 8).zip (s256Shell 0).iv.toList, isFraction 2 32 px.1 px.2.toNat) ∧
    (∀ px ∈ ((primes.drop 8).take 8).zip (s512Shell 1).iv.toList, isFraction 2 64 px.1 px.2.toNat) ∧
    (∀ px ∈ ((primes.drop 8).take 8).zip (s256Shell 1).iv.toList,
      ∃ high < 2 ^ 32, isFraction 2 64 px.1 (high * 2 ^ 32 + px.2.toNat)) ∧
    (k1.length = 4 ∧ ∀ nx ∈ [2, 3, 5, 10].zip k1,
      nx.2.toNat ^ 2 ≤ nx.1 * 2 ^ 60 ∧ nx.1 * 2 ^ 60 < (nx.2.toNat + 1) ^ 2) ∧
    (∀ (v : Words5) (t : Nat) (w : Word32), t < 80 → (sha1Round v (t, w)).h0 =
      v.h0.rotateLeft 5 + fSha1 t v.h1 v.h2 v.h3 + v.h4 +
        (if t < 20 then 0x5a827999 else if t < 40 then 0x6ed9eba1 else if t < 60 then 0x8f1bbcdc else 0xca62c1d6) +
        w) ∧
    (∀ s : State, (resetEngine .s256 s).s256.h = (s256Shell s.s256Var).iv ∧
      (resetEngine .s512 s).s512.h = (s512Shell s.s512Var).iv)

/-- NEW of the CRC engines (46_facade_hex.md R292; 40_crc.md R131, R135, R140). Everything not named is unchanged. -/
def Obligations.NewOnACrcEngine : Prop :=
    ∀ s : State,
    exec .newCrc8 s = .next { s with sel := 3, crc8 := 0x00, err := 0, responses := s.responses ++ [⟨.ok, []⟩] } ∧
    exec .newCrc16 s = .next { s with sel := 4, crc16 := 0x0000, err := 0, responses := s.responses ++ [⟨.ok, []⟩] } ∧
    exec .newCrc32 s = .next { s with sel := 2, crc32 := 0xFFFFFFFF, err := 0, responses := s.responses ++ [⟨.ok, []⟩] }

/-- NEW of MD5 and SHA-1 (46_facade_hex.md R292, 41_md_common.md R161, 44_md5.md R241, 43_sha1.md R221). Everything
not named is unchanged. -/
def Obligations.NewOnMd5AndSha1 : Prop :=
    ∀ s : State,
    exec .newMd5 s = .next { s with
      sel := 1
      md5 := { s.md5 with h := ⟨0x67452301, 0xefcdab89, 0x98badcfe, 0x10325476⟩, cnt := 0, cur := 0 }
      err := 0
      responses := s.responses ++ [⟨.ok, []⟩] } ∧
    exec .newSha1 s = .next { s with
      sel := 5
      sha1 := { s.sha1 with
        h := ⟨0x67452301, 0xefcdab89, 0x98badcfe, 0x10325476, 0xc3d2e1f0⟩, cnt := 0, cur := 0 }
      err := 0
      responses := s.responses ++ [⟨.ok, []⟩] }

/-- NEW of the two parameterised engines (46_facade_hex.md R292, 42_sha256.md R196, 45_sha512.md R267). Everything not
named is unchanged. -/
def Obligations.NewOnSha2Engines : Prop :=
    ∀ s : State,
    exec .newSha256 s = .next { s with
      sel := 0
      s256Var := 0
      s256 := { s.s256 with
        h := ⟨0x6a09e667, 0xbb67ae85, 0x3c6ef372, 0xa54ff53a,
          0x510e527f, 0x9b05688c, 0x1f83d9ab, 0x5be0cd19⟩
        cnt := 0
        cur := 0 }
      err := 0
      responses := s.responses ++ [⟨.ok, []⟩] } ∧
    exec .newSha224 s = .next { s with
      sel := 6
      s256Var := 1
      s256 := { s.s256 with
        h := ⟨0xc1059ed8, 0x367cd507, 0x3070dd17, 0xf70e5939,
          0xffc00b31, 0x68581511, 0x64f98fa7, 0xbefa4fa4⟩
        cnt := 0
        cur := 0 }
      err := 0
      responses := s.responses ++ [⟨.ok, []⟩] } ∧
    exec .newSha512 s = .next { s with
      sel := 8
      s512Var := 0
      s512 := { s.s512 with
        h := ⟨0x6a09e667f3bcc908, 0xbb67ae8584caa73b, 0x3c6ef372fe94f82b, 0xa54ff53a5f1d36f1,
          0x510e527fade682d1, 0x9b05688c2b3e6c1f, 0x1f83d9abfb41bd6b, 0x5be0cd19137e2179⟩
        cnt := 0
        cur := 0 }
      err := 0
      responses := s.responses ++ [⟨.ok, []⟩] } ∧
    exec .newSha384 s = .next { s with
      sel := 7
      s512Var := 1
      s512 := { s.s512 with
        h := ⟨0xcbbb9d5dc1059ed8, 0x629a292a367cd507, 0x9159015a3070dd17, 0x152fecd8f70e5939,
          0x67332667ffc00b31, 0x8eb44a8768581511, 0xdb0c2e0d64f98fa7, 0x47b5481dbefa4fa4⟩
        cnt := 0
        cur := 0 }
      err := 0
      responses := s.responses ++ [⟨.ok, []⟩] }

/-- NEW with an unsupported selector: `SEL <- sel`, then the exception, "nothing else changes" (46_facade_hex.md R292,
60_exceptions.md R322). -/
def Obligations.NewWithUnsupportedSelectorRaises : Prop :=
    ∀ s : State,
    exec .newUnsupported9 s = .next { s with
      sel := 9, err := 1, responses := s.responses ++ [⟨.unsupportedAlgorithm, []⟩] } ∧
    (∀ sel : BitVec 4, sel = 0xA ∨ sel = 0xB → exec (.newUnsupportedAB sel) s = .next { s with
      sel := sel, err := 1, responses := s.responses ++ [⟨.unsupportedAlgorithm, []⟩] }) ∧
    (∀ sel : BitVec 4, 0xC ≤ sel.toNat → exec (.newUnsupportedCF sel) s = .next { s with
      sel := sel, err := 1, responses := s.responses ++ [⟨.unsupportedAlgorithm, []⟩] })

/-- Where BYTE and FINISH take the exception (60_exceptions.md R321, R322). -/
def Obligations.MessageCommandsRaiseWithoutEngine : Prop :=
    ∀ (s : State) (imm : Byte), 9 ≤ s.sel.toNat →
    exec (.byteImm imm) s = .next { s with
      err := 1, responses := s.responses ++ [⟨.unsupportedAlgorithm, []⟩] } ∧
    exec .finish s = .next { s with
      err := 1, responses := s.responses ++ [⟨.unsupportedAlgorithm, []⟩] }

/-- CRC8.ABSORB, CRC16.ABSORB and CRC32.ABSORB as BYTE runs them (40_crc.md R132, R136, R141; 46_facade_hex.md R293).
The list that records the responses is the model's own (log entry 3). -/
def Obligations.ByteOnACrcEngine : Prop :=
    ∀ (s : State) (b : Byte),
    (s.sel = 3 → exec (.byteImm b) s = .next { s with
      crc8 := (fun r : BitVec 8 => if r.getLsbD 7 then (r <<< 1) ^^^ 0x07 else r <<< 1)^[8] (s.crc8 ^^^ b)
      err := 0
      responses := s.responses ++ [⟨.ok, []⟩] }) ∧
    (s.sel = 4 → exec (.byteImm b) s = .next { s with
      crc16 := (fun r : BitVec 16 => if r.getLsbD 15 then (r <<< 1) ^^^ 0x1021 else r <<< 1)^[8]
        (s.crc16 ^^^ (b.setWidth 16 <<< 8))
      err := 0
      responses := s.responses ++ [⟨.ok, []⟩] }) ∧
    (s.sel = 2 → exec (.byteImm b) s = .next { s with
      crc32 := (s.crc32 >>> 8) ^^^ s.crc32T[((s.crc32 ^^^ b.setWidth 32).toNat % 256)]'(Nat.mod_lt _ (by decide))
      err := 0
      responses := s.responses ++ [⟨.ok, []⟩] })

/-- MD.ABSORB as BYTE runs it on the four engines, memory frame included (41_md_common.md R162; 46_facade_hex.md
R293). That the bytes above the cursor, which the spec calls unspecified (10_state.md R29), keep their values is the
model's choice (DEDUCED, log entry 4). -/
def Obligations.ByteOnADigestEngine : Prop :=
    ∀ (s : State) (b : Byte),
    (s.md5.buf.wf 64 → s.sel = 1 → ∃ e', Absorbed md5Compress b s.md5 e' ∧
      exec (.byteImm b) s = .next { s with
        md5 := e', err := 0, responses := s.responses ++ [⟨.ok, []⟩] }) ∧
    (s.sha1.buf.wf 64 → s.sel = 5 → ∃ e', Absorbed sha1Compress b s.sha1 e' ∧
      exec (.byteImm b) s = .next { s with
        sha1 := e', err := 0, responses := s.responses ++ [⟨.ok, []⟩] }) ∧
    (s.s256.buf.wf 64 → s.sel = 0 ∨ s.sel = 6 → ∃ e', Absorbed s256Compress b s.s256 e' ∧
      exec (.byteImm b) s = .next { s with
        s256 := e', err := 0, responses := s.responses ++ [⟨.ok, []⟩] }) ∧
    (s.s512.buf.wf 128 → s.sel = 7 ∨ s.sel = 8 → ∃ e', Absorbed s512Compress b s.s512 e' ∧
      exec (.byteImm b) s = .next { s with
        s512 := e', err := 0, responses := s.responses ++ [⟨.ok, []⟩] })

/-- CRC8.FINAL, CRC16.FINAL and CRC32.FINAL inside FINISH (40_crc.md R133, R137, R142; 46_facade_hex.md R294). That
the bytes of `DOUT` past the digest, which the spec calls unspecified (10_state.md R23), keep their values is the
model's choice (DEDUCED, log entry 4). -/
def Obligations.FinishOnACrcEngine : Prop :=
    ∀ s : State, s.dout.wf 64 →
    (s.sel = 3 → ∃ dout', DigestStored [s.crc8] s.dout dout' ∧ exec .finish s = .next { s with
      crc8 := 0x00
      dout := dout'
      dlen := 1
      err := 0
      responses := s.responses ++ [⟨.ok, hexEnc [s.crc8]⟩] }) ∧
    (s.sel = 4 → ∃ dout', DigestStored [s.crc16.extractLsb' 8 8, s.crc16.extractLsb' 0 8] s.dout dout' ∧
      exec .finish s = .next { s with
        crc16 := 0x0000
        dout := dout'
        dlen := 2
        err := 0
        responses := s.responses ++ [⟨.ok, hexEnc [s.crc16.extractLsb' 8 8, s.crc16.extractLsb' 0 8]⟩] }) ∧
    (s.sel = 2 → let d := s.crc32 ^^^ 0xFFFFFFFF
      let bytes := [d.extractLsb' 24 8, d.extractLsb' 16 8, d.extractLsb' 8 8, d.extractLsb' 0 8]
      ∃ dout', DigestStored bytes s.dout dout' ∧ exec .finish s = .next { s with
        crc32 := 0xFFFFFFFF
        dout := dout'
        dlen := 4
        err := 0
        responses := s.responses ++ [⟨.ok, hexEnc bytes⟩] })

/-- MD.FINAL inside FINISH on the four engines under every variant, memory frame included (41_md_common.md R163, R164;
46_facade_hex.md R294). What the buffer holds after the reset and `DOUT` past the digest, which the spec calls
unspecified (10_state.md R23, R29), is the model's choice (DEDUCED, log entry 4). -/
def Obligations.FinishOnADigestEngine : Prop :=
    ∀ s : State, s.dout.wf 64 →
    (s.sel = 1 → s.md5.buf.wf 64 → ∃ dout' e',
      DigestStored (finalDigest md5Shell s.md5) s.dout dout' ∧ Finished md5Shell md5Shell.iv s.md5 e' ∧
      (finalDigest md5Shell s.md5).length = 16 ∧
      exec .finish s = .next { s with
        md5 := e'
        dout := dout'
        dlen := 16
        err := 0
        responses := s.responses ++ [⟨.ok, hexEnc (finalDigest md5Shell s.md5)⟩] }) ∧
    (s.sel = 5 → s.sha1.buf.wf 64 → ∃ dout' e',
      DigestStored (finalDigest sha1Shell s.sha1) s.dout dout' ∧ Finished sha1Shell sha1Shell.iv s.sha1 e' ∧
      (finalDigest sha1Shell s.sha1).length = 20 ∧
      exec .finish s = .next { s with
        sha1 := e'
        dout := dout'
        dlen := 20
        err := 0
        responses := s.responses ++ [⟨.ok, hexEnc (finalDigest sha1Shell s.sha1)⟩] }) ∧
    (s.sel = 0 ∧ s.s256Var = 0 → s.s256.buf.wf 64 → ∃ dout' e',
      DigestStored (finalDigest (s256Shell 0) s.s256) s.dout dout' ∧ Finished (s256Shell 0) (s256Shell 0).iv s.s256 e' ∧
      (finalDigest (s256Shell 0) s.s256).length = 32 ∧
      exec .finish s = .next { s with
        s256 := e'
        dout := dout'
        dlen := 32
        err := 0
        responses := s.responses ++ [⟨.ok, hexEnc (finalDigest (s256Shell 0) s.s256)⟩] }) ∧
    (s.sel = 6 ∧ s.s256Var = 1 → s.s256.buf.wf 64 → ∃ dout' e',
      DigestStored (finalDigest (s256Shell 1) s.s256) s.dout dout' ∧ Finished (s256Shell 1) (s256Shell 1).iv s.s256 e' ∧
      (finalDigest (s256Shell 1) s.s256).length = 28 ∧
      exec .finish s = .next { s with
        s256 := e'
        dout := dout'
        dlen := 28
        err := 0
        responses := s.responses ++ [⟨.ok, hexEnc (finalDigest (s256Shell 1) s.s256)⟩] }) ∧
    (s.sel = 8 ∧ s.s512Var = 0 → s.s512.buf.wf 128 → ∃ dout' e',
      DigestStored (finalDigest (s512Shell 0) s.s512) s.dout dout' ∧ Finished (s512Shell 0) (s512Shell 0).iv s.s512 e' ∧
      (finalDigest (s512Shell 0) s.s512).length = 64 ∧
      exec .finish s = .next { s with
        s512 := e'
        dout := dout'
        dlen := 64
        err := 0
        responses := s.responses ++ [⟨.ok, hexEnc (finalDigest (s512Shell 0) s.s512)⟩] }) ∧
    (s.sel = 7 ∧ s.s512Var = 1 → s.s512.buf.wf 128 → ∃ dout' e',
      DigestStored (finalDigest (s512Shell 1) s.s512) s.dout dout' ∧ Finished (s512Shell 1) (s512Shell 1).iv s.s512 e' ∧
      (finalDigest (s512Shell 1) s.s512).length = 48 ∧
      exec .finish s = .next { s with
        s512 := e'
        dout := dout'
        dlen := 48
        err := 0
        responses := s.responses ++ [⟨.ok, hexEnc (finalDigest (s512Shell 1) s.s512)⟩] })

/-- Output length and round trip of the hex string (46_facade_hex.md R302), with the lengths of the nine selectors. -/
def Obligations.FinishPayloadDecodesToDout : Prop :=
    (∀ s : State, s.Inv → supported s.sel →
      ∃ t p, exec .finish s = .next t ∧ lastResponse t = some ⟨.ok, p⟩ ∧
        p.length = 2 * digestBytes s.sel ∧ t.dlen.toNat = digestBytes s.sel ∧
        hexDec p = some (hostView t).dout) ∧
    ((List.range 9).map fun n => 2 * digestBytes (BitVec.ofNat 4 n)) = [64, 32, 8, 2, 4, 40, 56, 96, 128]

/-- FINISH always resets, so a second FINISH returns the digest of the empty message (70_reset_and_hazards.md R353).
-/
def Obligations.SecondFinishGivesTheEmptyDigest : Prop :=
    ∀ s : State, s.Inv → supported s.sel → ∃ t u, exec .finish s = .next t ∧ exec .finish t = .next u ∧
    lastResponse u = some ⟨.ok, hexEnc (wholeDigest s.sel [])⟩

/-- The streaming rules agree with the whole-message form (41_md_common.md R165, 40_crc.md R130), for any split into
chunks (R170) and whatever ran before (46_facade_hex.md R295). -/
def Obligations.ChunkedMessageGivesTheWholeDigest : Prop :=
    ∀ (s : State) (sel : BitVec 4) (chunks : List (List Byte)), s.Inv → supported sel →
    ∃ t, runCommands (newInstr sel :: (chunks.flatMap updateSeq ++ [.finish])) s = .next t ∧
      lastResponse t = some ⟨.ok, hexEnc (wholeDigest sel chunks.flatten)⟩ ∧
      t.dlen.toNat = digestBytes sel ∧ (hostView t).dout = wholeDigest sel chunks.flatten

/-- The padded length and the number of blocks (41_md_common.md R165), for any shell whose length field has LF bytes,
and that the four engines are such shells. -/
def Obligations.PaddedMessageIsWholeBlocks : Prop :=
    ∀ m : List Byte,
    (∀ {σ : Type} (bs lf : Nat) (sh : MdShell σ), sh.lf = lf → (∀ l, (sh.lenField l).length = lf) →
      0 < bs → lf < bs →
      padZeros bs lf m.length < bs ∧
      (padMessage bs sh m).length = ((m.length + lf) / bs + 1) * bs ∧
      (blocksOf bs (padMessage bs sh m)).length = (m.length + lf) / bs + 1 ∧
      (∀ k ∈ blocksOf bs (padMessage bs sh m), k.length = bs) ∧
      (blocksOf bs (padMessage bs sh m)).flatten = padMessage bs sh m) ∧
    (∀ l, (md5Shell.lenField l).length = 8 ∧ (sha1Shell.lenField l).length = 8) ∧
    (∀ v l, ((s256Shell v).lenField l).length = 8 ∧ ((s512Shell v).lenField l).length = 16) ∧
    md5Shell.lf = 8 ∧ sha1Shell.lf = 8 ∧ (∀ v, (s256Shell v).lf = 8) ∧ (∀ v, (s512Shell v).lf = 16)

/-- COMPUTE_DIGEST against HASH (30_encoding.md R100, R101). -/
def Obligations.ComputeDigestIsTheFacadeEntryPoint : Prop :=
    ∀ (s : State) (sel : BitVec 4) (m : List Byte),
    (¬ supported sel → computeDigest sel m s = exec (newInstr sel) s ∧
      ∃ t, exec (newInstr sel) s = .next t ∧ lastResponse t = some ⟨.unsupportedAlgorithm, []⟩) ∧
    (supported sel → computeDigest sel m s = runCommands (hashSeq sel m) s)

/-- The literal digests of 95_test_vectors.md section 1.1. -/
def Obligations.LiteralDigestsOfTheDocument : Prop :=
    let result (sel : BitVec 4) (m : List Byte) : Option (List Byte) :=
      match computeDigest sel m State.reset with
      | .next t => some (hostView t).dout
      | .fault _ => none
      | .refused _ => none
    let hex (digest : List Byte) (n : Nat) (x : Nat) : Prop :=
      digest = (List.range n).map fun k => BitVec.ofNat 8 (x / 256 ^ (n - 1 - k))
    (∃ d, result 1 [] = some d ∧ hex d 16 0xd41d8cd98f00b204e9800998ecf8427e) ∧
    (∃ d, result 0 [] = some d ∧
      hex d 32 0xe3b0c44298fc1c149afbf4c8996fb92427ae41e4649b934ca495991b7852b855) ∧
    (∃ d, result 5 [] = some d ∧ hex d 20 0xda39a3ee5e6b4b0d3255bfef95601890afd80709) ∧
    (∃ d, result 0 [0x61, 0x62, 0x63] = some d ∧
      hex d 32 0xba7816bf8f01cfea414140de5dae2223b00361a396177a9cb410ff61f20015ad) ∧
    (∃ d, result 2 [] = some d ∧ hex d 4 0x00000000)

/-- One response per command with the status written to `ERR` (10_state.md R22, 30_encoding.md R94), and when the
exception is raised (60_exceptions.md R321). The list that records the responses is the model's own (log entry 3). -/
def Obligations.EveryCommandAnswersOnce : Prop :=
    State.reset.err = 0 ∧ ∀ (i : Instr) (s : State), ∃ t r, exec i s = .next t ∧
    t.responses = s.responses ++ [r] ∧ t.err = statusCode r.status ∧
    (statusCode .ok = 0 ∧ statusCode .unsupportedAlgorithm = 1) ∧
    (r.status = .unsupportedAlgorithm ↔ ¬ supported t.sel) ∧
    (r.payload ≠ [] → i = .finish ∧ r.status = .ok) ∧
    (∀ v : BitVec 1, exec i (s.setErr v) = exec i s)

/-- Who writes the façade registers (10_state.md R21, R23, R24) and that nothing writes the table (R32). The last
clause, that a command leaves the moves pending alone, is about the model's own port (DESIGN CHOICE, log entry 2). -/
def Obligations.SelIsWrittenByNewAlone : Prop :=
    ∀ (i : Instr) (s t : State), exec i s = .next t →
    t.sel = (if i.isNew then BitVec.ofNat 4 ((encode i).toNat / 256) else s.sel) ∧
    (i ≠ .finish → t.dout = s.dout ∧ t.dlen = s.dlen) ∧
    (t.s256Var ≠ s.s256Var → i.isNew = true ∧ (t.sel = 0 ∨ t.sel = 6)) ∧
    (t.s512Var ≠ s.s512Var → i.isNew = true ∧ (t.sel = 8 ∨ t.sel = 7)) ∧
    t.crc32T = s.crc32T ∧ t.pending = s.pending

/-- Ownership of the engine records (10_state.md R36, 46_facade_hex.md R290). -/
def Obligations.OnlyTheSelectedEngineIsTouched : Prop :=
    ∀ (i : Instr) (s t : State), exec i s = .next t →
    (t.sel ≠ 3 → t.crc8 = s.crc8) ∧ (t.sel ≠ 4 → t.crc16 = s.crc16) ∧ (t.sel ≠ 2 → t.crc32 = s.crc32) ∧
    (t.sel ≠ 1 → t.md5 = s.md5) ∧ (t.sel ≠ 5 → t.sha1 = s.sha1) ∧
    (t.sel ≠ 0 → t.sel ≠ 6 → t.s256 = s.s256 ∧ t.s256Var = s.s256Var) ∧
    (t.sel ≠ 7 → t.sel ≠ 8 → t.s512 = s.s512 ∧ t.s512Var = s.s512Var) ∧
    (¬ supported t.sel → t.dout = s.dout ∧ t.dlen = s.dlen)

/-- No command raises if every NEW is supported and the sequence begins with a NEW (60_exceptions.md R325). The list
that records the responses is the model's own (log entry 3). -/
def Obligations.SupportedSequencesNeverRaise : Prop :=
    ∀ (s : State) (sel : BitVec 4) (is : List Instr), supported sel → (∀ i ∈ is, i.isSupported) →
    ∃ t rs, runCommands (newInstr sel :: is) s = .next t ∧ t.responses = s.responses ++ rs ∧
      rs.length = is.length + 1 ∧ ∀ r ∈ rs, r.status = .ok

/-- A host that ignores the error gets no digest (70_reset_and_hazards.md R356). The list that records the responses
is the model's own (log entry 3). -/
def Obligations.IgnoredErrorKeepsRaising : Prop :=
    ∀ (s : State) (sel : BitVec 4) (is : List Instr), ¬ supported sel → (∀ i ∈ is, i.isNew = false) →
    runCommands (newInstr sel :: is) s = .next { s with
      sel := sel
      err := 1
      responses := s.responses ++ List.replicate (is.length + 1) ⟨.unsupportedAlgorithm, []⟩ }

/-- The invariants between commands (10_state.md R24, R27, R28, R32; 30_encoding.md R94), kept by every step from
every state that meets them. -/
def Obligations.EveryStepKeepsTheInvariant : Prop :=
    ∀ s t : State, s.Inv → step s = .next t → t.Inv

/-- The invariant holds after reset (70_reset_and_hazards.md R350). That the unspecified buffers are in canonical form
rests on the model's choice of their contents (DESIGN CHOICE, log entry 1). -/
def Obligations.ResetMeetsTheInvariant : Prop :=
    State.reset.Inv

/-- Every command terminates and none stops the machine (00_scope.md R17, 60_exceptions.md R321); the words the host
may issue are those of 30_encoding.md R95. The list of pending moves, and that a step past the last of them is an idle
step, are the model's choice (DESIGN CHOICE, log entry 2). -/
def Obligations.SafeHostNeverStopsTheMachine : Prop :=
    ∀ (s : State) (k : Nat), safeHost s → ∃ t, Host.Core.run Sys2Proof.core k s = .next t

/-- A run is a start state and a finite sequence of command words, executed in order (00_scope.md R17, 20_memory.md
R67). The port is the model's own (log entry 2). -/
def Obligations.StepsRunTheCommandSequence : Prop :=
    ∀ (is : List Instr) (s : State), (∀ i ∈ is, i.wellFormed = true) →
    Host.Core.run Sys2Proof.core is.length (s.setPending (is.map fun i => .command (encode i))) =
      runCommands is (s.setPending [])

/-- The state of an unselected engine and the unspecified bytes are never observable (10_state.md R29, R36;
00_scope.md R17; 46_facade_hex.md R295). -/
def Obligations.UnselectedAndUnspecifiedStateIsNeverSeen : Prop :=
    ∀ s t : State, s.Inv → t.Inv → Alike s t →
    (∀ s', step s = .next s' → ∃ t', step t = .next t' ∧ Alike s' t' ∧ observe s' = observe t') ∧
    (∀ r, step s = .refused r → step t = .refused r)

/-- The two unreflected CRCs as polynomials (40_crc.md R134, R138): the remainder has degree below the width because
it is read off a register of that width. -/
def Obligations.CrcDigestIsThePolynomialRemainder : Prop :=
    let poly (w : Nat) (x : BitVec w) : Polynomial (ZMod 2) :=
      ∑ i ∈ Finset.range w, if x.getLsbD i then Polynomial.X ^ i else 0
    let message (m : List Byte) : Polynomial (ZMod 2) :=
      m.foldl (fun p b => p * Polynomial.X ^ 8 + poly 8 b) 0
    let check : List Byte := [0x31, 0x32, 0x33, 0x34, 0x35, 0x36, 0x37, 0x38, 0x39]
    (∀ m : List Byte, ∃ q : Polynomial (ZMod 2), message m * Polynomial.X ^ 8 =
      q * (Polynomial.X ^ 8 + Polynomial.X ^ 2 + Polynomial.X + 1) +
        poly 8 (m.foldl crc8Absorb crc8Reset)) ∧
    (∀ m : List Byte, ∃ q : Polynomial (ZMod 2), message m * Polynomial.X ^ 16 =
      q * (Polynomial.X ^ 16 + Polynomial.X ^ 12 + Polynomial.X ^ 5 + 1) +
        poly 16 (m.foldl crc16Absorb crc16Reset)) ∧
    check.foldl crc8Absorb crc8Reset = 0xF4 ∧ check.foldl crc16Absorb crc16Reset = 0x31C3

/-- The table-free form of CRC32.ABSORB and the check value (40_crc.md R143). -/
def Obligations.Crc32TableStepIsEightBitSteps : Prop :=
    (∀ (r : BitVec 32) (b : Byte), crc32Absorb State.reset.crc32T r b =
      (fun c : Word32 => if c.getLsbD 0 then (c >>> 1) ^^^ 0xEDB88320 else c >>> 1)^[8]
        (r ^^^ b.setWidth 32)) ∧
    ([0x31, 0x32, 0x33, 0x34, 0x35, 0x36, 0x37, 0x38, 0x39].foldl (crc32Absorb State.reset.crc32T)
      0xFFFFFFFF) ^^^ 0xFFFFFFFF = 0xCBF43926

/-- The hex encoder (46_facade_hex.md R300) and its round trip (R302). -/
def Obligations.HexEncodingIsInvertible : Prop :=
    ∀ d : List Byte, (hexEnc d).length = 2 * d.length ∧ hexDec (hexEnc d) = some d ∧
    ∀ (i : Nat) (h : i < d.length),
      (hexEnc d)[2 * i]? = some (hexDigit (d[i].extractLsb' 4 4)) ∧
      (hexEnc d)[2 * i + 1]? = some (hexDigit (d[i].extractLsb' 0 4))

/-- HEXDIGIT (46_facade_hex.md R301). -/
def Obligations.HexDigitsAreLowercaseAscii : Prop :=
    ∀ n : BitVec 4, (n.toNat ≤ 9 → (hexDigit n).toNat = 0x30 + n.toNat) ∧
    (10 ≤ n.toNat → (hexDigit n).toNat = 0x61 + (n.toNat - 10))

/-- LEN_e of the four engines, with the rule's example L = 24 (41_md_common.md R164). -/
def Obligations.LengthFieldByteOrders : Prop :=
    ∀ (l : BitVec 64) (v : BitVec 1),
    md5Shell.lenField l = [l.extractLsb' 0 8, l.extractLsb' 8 8, l.extractLsb' 16 8, l.extractLsb' 24 8,
      l.extractLsb' 32 8, l.extractLsb' 40 8, l.extractLsb' 48 8, l.extractLsb' 56 8] ∧
    sha1Shell.lenField l = [l.extractLsb' 56 8, l.extractLsb' 48 8, l.extractLsb' 40 8, l.extractLsb' 32 8,
      l.extractLsb' 24 8, l.extractLsb' 16 8, l.extractLsb' 8 8, l.extractLsb' 0 8] ∧
    (s256Shell v).lenField l = sha1Shell.lenField l ∧
    (s512Shell v).lenField l = [0, 0, 0, 0, 0, 0, 0, 0] ++ sha1Shell.lenField l ∧
    md5Shell.lenField 24 = [0x18, 0, 0, 0, 0, 0, 0, 0] ∧ sha1Shell.lenField 24 = [0, 0, 0, 0, 0, 0, 0, 0x18] ∧
    (s512Shell v).lenField 24 = [0, 0, 0, 0, 0, 0, 0, 0, 0, 0, 0, 0, 0, 0, 0, 0x18]

/-- Byte order of block words and digest bytes, engine by engine and variant by variant (00_scope.md R13; 20_memory.md
R62, R63; 42_sha256.md R197, 43_sha1.md R225, 44_md5.md R246, 45_sha512.md R266). -/
def Obligations.OneByteOrderPerEngine : Prop :=
    let be (x : Word32) : List Byte :=
      [x.extractLsb' 24 8, x.extractLsb' 16 8, x.extractLsb' 8 8, x.extractLsb' 0 8]
    let le (x : Word32) : List Byte :=
      [x.extractLsb' 0 8, x.extractLsb' 8 8, x.extractLsb' 16 8, x.extractLsb' 24 8]
    let beWide (x : Word64) : List Byte :=
      [x.extractLsb' 56 8, x.extractLsb' 48 8, x.extractLsb' 40 8, x.extractLsb' 32 8,
       x.extractLsb' 24 8, x.extractLsb' 16 8, x.extractLsb' 8 8, x.extractLsb' 0 8]
    let number (bytes : List Byte) : Nat := bytes.foldl (fun n b => 256 * n + b.toNat) 0
    let piece (n : Nat) (block : List Byte) (t : Nat) : List Byte := (block.drop (n * t)).take n
    (∀ (h : Words4) (block : List Byte), block.length = 64 → md5Compress h block = h.add ((List.range 64).foldl
      (md5Round ((List.range 16).map fun t => BitVec.ofNat 32 (number (piece 4 block t).reverse))) h)) ∧
    (∀ block : List Byte, block.length = 64 →
      (sha1Schedule block).take 16 = (List.range 16).map (fun t => BitVec.ofNat 32 (number (piece 4 block t))) ∧
      (s256Schedule block).take 16 = (List.range 16).map (fun t => BitVec.ofNat 32 (number (piece 4 block t)))) ∧
    (∀ block : List Byte, block.length = 128 →
      (s512Schedule block).take 16 = (List.range 16).map (fun t => BitVec.ofNat 64 (number (piece 8 block t)))) ∧
    (∀ h : Words4, md5Shell.out h = le h.h0 ++ le h.h1 ++ le h.h2 ++ le h.h3) ∧
    (∀ h : Words5, sha1Shell.out h = be h.h0 ++ be h.h1 ++ be h.h2 ++ be h.h3 ++ be h.h4) ∧
    (∀ h : Words8 32, (s256Shell 0).out h =
      be h.h0 ++ be h.h1 ++ be h.h2 ++ be h.h3 ++ be h.h4 ++ be h.h5 ++ be h.h6 ++ be h.h7) ∧
    (∀ h : Words8 32, (s256Shell 1).out h =
      be h.h0 ++ be h.h1 ++ be h.h2 ++ be h.h3 ++ be h.h4 ++ be h.h5 ++ be h.h6) ∧
    (∀ h : Words8 64, (s512Shell 0).out h = beWide h.h0 ++ beWide h.h1 ++ beWide h.h2 ++ beWide h.h3 ++
      beWide h.h4 ++ beWide h.h5 ++ beWide h.h6 ++ beWide h.h7) ∧
    (∀ h : Words8 64, (s512Shell 1).out h = beWide h.h0 ++ beWide h.h1 ++ beWide h.h2 ++ beWide h.h3 ++
      beWide h.h4 ++ beWide h.h5) ∧
    (∀ x : Word32, wordsBe32 (toBe32 x) = [x] ∧ wordsLe32 (toLe32 x) = [x]) ∧
    (∀ x : Word64, wordsBe64 (toBe64 x) = [x] ∧ toLe64 x = (toBe64 x).reverse) ∧
    wordsBe32 [0x61, 0x62, 0x63, 0x80] = [0x61626380] ∧ wordsLe32 [0x61, 0x62, 0x63, 0x80] = [0x80636261] ∧
    wordsBe64 [0x61, 0x62, 0x63, 0x80, 0, 0, 0, 0] = [0x6162638000000000]

/-- The traced compressions of 95_test_vectors.md sections 5 to 8. -/
def Obligations.SampleCompressions : Prop :=
    let abc : List Byte := [0x61, 0x62, 0x63]
    s256Compress iv256 (padMessage 64 (s256Shell 0) abc) =
      ⟨0xba7816bf, 0x8f01cfea, 0x414140de, 0x5dae2223, 0xb00361a3, 0x96177a9c, 0xb410ff61, 0xf20015ad⟩ ∧
    s256Compress iv224 (padMessage 64 (s256Shell 1) abc) =
      ⟨0x23097d22, 0x3405d822, 0x8642a477, 0xbda255b3, 0x2aadbce4, 0xbda0b3f7, 0xe36c9da7, 0xd2da082d⟩ ∧
    sha1Compress iv1 (padMessage 64 sha1Shell abc) =
      ⟨0xa9993e36, 0x4706816a, 0xba3e2571, 0x7850c26c, 0x9cd0d89d⟩ ∧
    md5Compress ivMd5 (padMessage 64 md5Shell abc) = ⟨0x98500190, 0xb04fd23c, 0x7d3f96d6, 0x727fe128⟩ ∧
    s512Compress iv512 (padMessage 128 (s512Shell 0) abc) =
      ⟨0xddaf35a193617aba, 0xcc417349ae204131, 0x12e6fa4e89a97ea2, 0x0a9eeee64b55d39a,
       0x2192992a274fc1a8, 0x36ba3c23a3feebbd, 0x454d4423643ce80e, 0x2a9ac94fa54ca49f⟩ ∧
    s512Compress iv384 (padMessage 128 (s512Shell 1) abc) =
      ⟨0xcb00753f45a35e8b, 0xb5a03d699ac65007, 0x272c32ab0eded163, 0x1a8b605a43ff5bed,
       0x8086072ba1e7cc23, 0x58baeca134c825a7, 0xa303edfdf3b89cd7, 0x0c66918ece57ba15⟩

/-- The phase function of SHA-1 in all four ranges of rounds, with the alternative forms (43_sha1.md R223), and the
corner cases of the SHA-256 functions (42_sha256.md R194). -/
def Obligations.Sha2AndSha1FunctionIdentities : Prop :=
    ∀ x y z : Word32,
    (∀ t : Nat, t < 20 → fSha1 t x y z = (x &&& y) ||| (~~~x &&& z) ∧ fSha1 t x y z = (x &&& y) ^^^ (~~~x &&& z)) ∧
    (∀ t : Nat, 20 ≤ t → t < 40 → fSha1 t x y z = x ^^^ y ^^^ z) ∧
    (∀ t : Nat, 40 ≤ t → t < 60 → fSha1 t x y z = (x &&& y) ||| (x &&& z) ||| (y &&& z) ∧
      fSha1 t x y z = (x &&& y) ^^^ (x &&& z) ^^^ (y &&& z)) ∧
    (∀ t : Nat, 60 ≤ t → t < 80 → fSha1 t x y z = x ^^^ y ^^^ z) ∧
    chFn (0xFFFFFFFF : Word32) y z = y ∧ chFn (0 : Word32) y z = z ∧
    (∀ i : Nat, i < 32 → (majFn x y z).getLsbD i =
      decide (2 ≤ (x.getLsbD i).toNat + (y.getLsbD i).toNat + (z.getLsbD i).toNat)) ∧
    chFn (0 : Word32) 0 0 = 0 ∧ majFn (0 : Word32) 0 0 = 0 ∧
    bsig0W32 0 = 0 ∧ bsig1W32 0 = 0 ∧ ssig0W32 0 = 0 ∧ ssig1W32 0 = 0

/-- The index sequence and the rotation table of MD5 (44_md5.md R243, R244). -/
def Obligations.Md5IndexAndRotationTables : Prop :=
    (List.range 64).map gMd5 =
      [0, 1, 2, 3, 4, 5, 6, 7, 8, 9, 10, 11, 12, 13, 14, 15,
       1, 6, 11, 0, 5, 10, 15, 4, 9, 14, 3, 8, 13, 2, 7, 12,
       5, 8, 11, 14, 1, 4, 7, 10, 13, 0, 3, 6, 9, 12, 15, 2,
       0, 7, 14, 5, 12, 3, 10, 1, 8, 15, 6, 13, 4, 11, 2, 9] ∧
    (List.range 64).map sMd5 =
      [7, 12, 17, 22, 7, 12, 17, 22, 7, 12, 17, 22, 7, 12, 17, 22,
       5, 9, 14, 20, 5, 9, 14, 20, 5, 9, 14, 20, 5, 9, 14, 20,
       4, 11, 16, 23, 4, 11, 16, 23, 4, 11, 16, 23, 4, 11, 16, 23,
       6, 10, 15, 21, 6, 10, 15, 21, 6, 10, 15, 21, 6, 10, 15, 21]

/-- The digest matrix of 95_test_vectors.md section 9, row M3, among it the examples of 42_sha256.md R198 and
45_sha512.md R266. -/
def Obligations.DigestsOfAbcUnderEverySelector : Prop :=
    let digest (sel : BitVec 4) : Option (List Byte) :=
      match computeDigest sel [0x61, 0x62, 0x63] State.reset with
      | .next t => some (hostView t).dout
      | .fault _ => none
      | .refused _ => none
    let bytes (n x : Nat) : Option (List Byte) :=
      some ((List.range n).map fun k => BitVec.ofNat 8 (x / 256 ^ (n - 1 - k)))
    digest 0x3 = bytes 1 0x5f ∧ digest 0x4 = bytes 2 0x9dd6 ∧ digest 0x2 = bytes 4 0x352441c2 ∧
    digest 0x1 = bytes 16 0x900150983cd24fb0d6963f7d28e17f72 ∧
    digest 0x5 = bytes 20 0xa9993e364706816aba3e25717850c26c9cd0d89d ∧
    digest 0x6 = bytes 28 0x23097d223405d8228642a477bda255b32aadbce4bda0b3f7e36c9da7 ∧
    digest 0x0 = bytes 32 0xba7816bf8f01cfea414140de5dae2223b00361a396177a9cb410ff61f20015ad ∧
    digest 0x7 = bytes 48
      0xcb00753f45a35e8bb5a03d699ac65007272c32ab0eded1631a8b605a43ff5bed8086072ba1e7cc2358baeca134c825a7 ∧
    digest 0x8 = bytes 64
      0xddaf35a193617abacc417349ae20413112e6fa4e89a97ea20a9eeee64b55d39a2192992a274fc1a836ba3c23a3feebbd454d4423643ce80e2a9ac94fa54ca49f

/-- The line syntax of command sequences (30_encoding.md R98); the points the rule leaves open are log entry 8's. -/
def Obligations.AssemblingALineGivesItsCommand : Prop :=
    ∀ i : Instr, i.wellFormed = true → assembleLine (lineOf i) = some [i]
end

