-- ==== Sys2Proof/Laws/State.lean ====
section
/-! SUPPORT. The record updates of State: one lemma per field per update, all true by rfl. -/

namespace Sys2Proof.Machine

section
variable (s : State) (v : BitVec 4)

@[simp] theorem State.setSel_sel : (s.setSel v).sel = v := rfl
@[simp] theorem State.setSel_err : (s.setSel v).err = s.err := rfl
@[simp] theorem State.setSel_dlen : (s.setSel v).dlen = s.dlen := rfl
@[simp] theorem State.setSel_dout : (s.setSel v).dout = s.dout := rfl
@[simp] theorem State.setSel_crc8 : (s.setSel v).crc8 = s.crc8 := rfl
@[simp] theorem State.setSel_crc16 : (s.setSel v).crc16 = s.crc16 := rfl
@[simp] theorem State.setSel_crc32 : (s.setSel v).crc32 = s.crc32 := rfl
@[simp] theorem State.setSel_crc32T : (s.setSel v).crc32T = s.crc32T := rfl
@[simp] theorem State.setSel_md5 : (s.setSel v).md5 = s.md5 := rfl
@[simp] theorem State.setSel_sha1 : (s.setSel v).sha1 = s.sha1 := rfl
@[simp] theorem State.setSel_s256Var : (s.setSel v).s256Var = s.s256Var := rfl
@[simp] theorem State.setSel_s256 : (s.setSel v).s256 = s.s256 := rfl
@[simp] theorem State.setSel_s512Var : (s.setSel v).s512Var = s.s512Var := rfl
@[simp] theorem State.setSel_s512 : (s.setSel v).s512 = s.s512 := rfl
@[simp] theorem State.setSel_pending : (s.setSel v).pending = s.pending := rfl
@[simp] theorem State.setSel_responses : (s.setSel v).responses = s.responses := rfl
end

section
variable (s : State) (v : BitVec 1)

@[simp] theorem State.setErr_sel : (s.setErr v).sel = s.sel := rfl
@[simp] theorem State.setErr_err : (s.setErr v).err = v := rfl
@[simp] theorem State.setErr_dlen : (s.setErr v).dlen = s.dlen := rfl
@[simp] theorem State.setErr_dout : (s.setErr v).dout = s.dout := rfl
@[simp] theorem State.setErr_crc8 : (s.setErr v).crc8 = s.crc8 := rfl
@[simp] theorem State.setErr_crc16 : (s.setErr v).crc16 = s.crc16 := rfl
@[simp] theorem State.setErr_crc32 : (s.setErr v).crc32 = s.crc32 := rfl
@[simp] theorem State.setErr_crc32T : (s.setErr v).crc32T = s.crc32T := rfl
@[simp] theorem State.setErr_md5 : (s.setErr v).md5 = s.md5 := rfl
@[simp] theorem State.setErr_sha1 : (s.setErr v).sha1 = s.sha1 := rfl
@[simp] theorem State.setErr_s256Var : (s.setErr v).s256Var = s.s256Var := rfl
@[simp] theorem State.setErr_s256 : (s.setErr v).s256 = s.s256 := rfl
@[simp] theorem State.setErr_s512Var : (s.setErr v).s512Var = s.s512Var := rfl
@[simp] theorem State.setErr_s512 : (s.setErr v).s512 = s.s512 := rfl
@[simp] theorem State.setErr_pending : (s.setErr v).pending = s.pending := rfl
@[simp] theorem State.setErr_responses : (s.setErr v).responses = s.responses := rfl
end

section
variable (s : State) (v : BitVec 7)

@[simp] theorem State.setDlen_sel : (s.setDlen v).sel = s.sel := rfl
@[simp] theorem State.setDlen_err : (s.setDlen v).err = s.err := rfl
@[simp] theorem State.setDlen_dlen : (s.setDlen v).dlen = v := rfl
@[simp] theorem State.setDlen_dout : (s.setDlen v).dout = s.dout := rfl
@[simp] theorem State.setDlen_crc8 : (s.setDlen v).crc8 = s.crc8 := rfl
@[simp] theorem State.setDlen_crc16 : (s.setDlen v).crc16 = s.crc16 := rfl
@[simp] theorem State.setDlen_crc32 : (s.setDlen v).crc32 = s.crc32 := rfl
@[simp] theorem State.setDlen_crc32T : (s.setDlen v).crc32T = s.crc32T := rfl
@[simp] theorem State.setDlen_md5 : (s.setDlen v).md5 = s.md5 := rfl
@[simp] theorem State.setDlen_sha1 : (s.setDlen v).sha1 = s.sha1 := rfl
@[simp] theorem State.setDlen_s256Var : (s.setDlen v).s256Var = s.s256Var := rfl
@[simp] theorem State.setDlen_s256 : (s.setDlen v).s256 = s.s256 := rfl
@[simp] theorem State.setDlen_s512Var : (s.setDlen v).s512Var = s.s512Var := rfl
@[simp] theorem State.setDlen_s512 : (s.setDlen v).s512 = s.s512 := rfl
@[simp] theorem State.setDlen_pending : (s.setDlen v).pending = s.pending := rfl
@[simp] theorem State.setDlen_responses : (s.setDlen v).responses = s.responses := rfl
end

section
variable (s : State) (v : Memory)

@[simp] theorem State.setDout_sel : (s.setDout v).sel = s.sel := rfl
@[simp] theorem State.setDout_err : (s.setDout v).err = s.err := rfl
@[simp] theorem State.setDout_dlen : (s.setDout v).dlen = s.dlen := rfl
@[simp] theorem State.setDout_dout : (s.setDout v).dout = v := rfl
@[simp] theorem State.setDout_crc8 : (s.setDout v).crc8 = s.crc8 := rfl
@[simp] theorem State.setDout_crc16 : (s.setDout v).crc16 = s.crc16 := rfl
@[simp] theorem State.setDout_crc32 : (s.setDout v).crc32 = s.crc32 := rfl
@[simp] theorem State.setDout_crc32T : (s.setDout v).crc32T = s.crc32T := rfl
@[simp] theorem State.setDout_md5 : (s.setDout v).md5 = s.md5 := rfl
@[simp] theorem State.setDout_sha1 : (s.setDout v).sha1 = s.sha1 := rfl
@[simp] theorem State.setDout_s256Var : (s.setDout v).s256Var = s.s256Var := rfl
@[simp] theorem State.setDout_s256 : (s.setDout v).s256 = s.s256 := rfl
@[simp] theorem State.setDout_s512Var : (s.setDout v).s512Var = s.s512Var := rfl
@[simp] theorem State.setDout_s512 : (s.setDout v).s512 = s.s512 := rfl
@[simp] theorem State.setDout_pending : (s.setDout v).pending = s.pending := rfl
@[simp] theorem State.setDout_responses : (s.setDout v).responses = s.responses := rfl
end

section
variable (s : State) (v : BitVec 8)

@[simp] theorem State.setCrc8_sel : (s.setCrc8 v).sel = s.sel := rfl
@[simp] theorem State.setCrc8_err : (s.setCrc8 v).err = s.err := rfl
@[simp] theorem State.setCrc8_dlen : (s.setCrc8 v).dlen = s.dlen := rfl
@[simp] theorem State.setCrc8_dout : (s.setCrc8 v).dout = s.dout := rfl
@[simp] theorem State.setCrc8_crc8 : (s.setCrc8 v).crc8 = v := rfl
@[simp] theorem State.setCrc8_crc16 : (s.setCrc8 v).crc16 = s.crc16 := rfl
@[simp] theorem State.setCrc8_crc32 : (s.setCrc8 v).crc32 = s.crc32 := rfl
@[simp] theorem State.setCrc8_crc32T : (s.setCrc8 v).crc32T = s.crc32T := rfl
@[simp] theorem State.setCrc8_md5 : (s.setCrc8 v).md5 = s.md5 := rfl
@[simp] theorem State.setCrc8_sha1 : (s.setCrc8 v).sha1 = s.sha1 := rfl
@[simp] theorem State.setCrc8_s256Var : (s.setCrc8 v).s256Var = s.s256Var := rfl
@[simp] theorem State.setCrc8_s256 : (s.setCrc8 v).s256 = s.s256 := rfl
@[simp] theorem State.setCrc8_s512Var : (s.setCrc8 v).s512Var = s.s512Var := rfl
@[simp] theorem State.setCrc8_s512 : (s.setCrc8 v).s512 = s.s512 := rfl
@[simp] theorem State.setCrc8_pending : (s.setCrc8 v).pending = s.pending := rfl
@[simp] theorem State.setCrc8_responses : (s.setCrc8 v).responses = s.responses := rfl
end

section
variable (s : State) (v : BitVec 16)

@[simp] theorem State.setCrc16_sel : (s.setCrc16 v).sel = s.sel := rfl
@[simp] theorem State.setCrc16_err : (s.setCrc16 v).err = s.err := rfl
@[simp] theorem State.setCrc16_dlen : (s.setCrc16 v).dlen = s.dlen := rfl
@[simp] theorem State.setCrc16_dout : (s.setCrc16 v).dout = s.dout := rfl
@[simp] theorem State.setCrc16_crc8 : (s.setCrc16 v).crc8 = s.crc8 := rfl
@[simp] theorem State.setCrc16_crc16 : (s.setCrc16 v).crc16 = v := rfl
@[simp] theorem State.setCrc16_crc32 : (s.setCrc16 v).crc32 = s.crc32 := rfl
@[simp] theorem State.setCrc16_crc32T : (s.setCrc16 v).crc32T = s.crc32T := rfl
@[simp] theorem State.setCrc16_md5 : (s.setCrc16 v).md5 = s.md5 := rfl
@[simp] theorem State.setCrc16_sha1 : (s.setCrc16 v).sha1 = s.sha1 := rfl
@[simp] theorem State.setCrc16_s256Var : (s.setCrc16 v).s256Var = s.s256Var := rfl
@[simp] theorem State.setCrc16_s256 : (s.setCrc16 v).s256 = s.s256 := rfl
@[simp] theorem State.setCrc16_s512Var : (s.setCrc16 v).s512Var = s.s512Var := rfl
@[simp] theorem State.setCrc16_s512 : (s.setCrc16 v).s512 = s.s512 := rfl
@[simp] theorem State.setCrc16_pending : (s.setCrc16 v).pending = s.pending := rfl
@[simp] theorem State.setCrc16_responses : (s.setCrc16 v).responses = s.responses := rfl
end

section
variable (s : State) (v : BitVec 32)

@[simp] theorem State.setCrc32_sel : (s.setCrc32 v).sel = s.sel := rfl
@[simp] theorem State.setCrc32_err : (s.setCrc32 v).err = s.err := rfl
@[simp] theorem State.setCrc32_dlen : (s.setCrc32 v).dlen = s.dlen := rfl
@[simp] theorem State.setCrc32_dout : (s.setCrc32 v).dout = s.dout := rfl
@[simp] theorem State.setCrc32_crc8 : (s.setCrc32 v).crc8 = s.crc8 := rfl
@[simp] theorem State.setCrc32_crc16 : (s.setCrc32 v).crc16 = s.crc16 := rfl
@[simp] theorem State.setCrc32_crc32 : (s.setCrc32 v).crc32 = v := rfl
@[simp] theorem State.setCrc32_crc32T : (s.setCrc32 v).crc32T = s.crc32T := rfl
@[simp] theorem State.setCrc32_md5 : (s.setCrc32 v).md5 = s.md5 := rfl
@[simp] theorem State.setCrc32_sha1 : (s.setCrc32 v).sha1 = s.sha1 := rfl
@[simp] theorem State.setCrc32_s256Var : (s.setCrc32 v).s256Var = s.s256Var := rfl
@[simp] theorem State.setCrc32_s256 : (s.setCrc32 v).s256 = s.s256 := rfl
@[simp] theorem State.setCrc32_s512Var : (s.setCrc32 v).s512Var = s.s512Var := rfl
@[simp] theorem State.setCrc32_s512 : (s.setCrc32 v).s512 = s.s512 := rfl
@[simp] theorem State.setCrc32_pending : (s.setCrc32 v).pending = s.pending := rfl
@[simp] theorem State.setCrc32_responses : (s.setCrc32 v).responses = s.responses := rfl
end

section
variable (s : State) (v : MdRecord Words4 Config.cursorWidth32)

@[simp] theorem State.setMd5_sel : (s.setMd5 v).sel = s.sel := rfl
@[simp] theorem State.setMd5_err : (s.setMd5 v).err = s.err := rfl
@[simp] theorem State.setMd5_dlen : (s.setMd5 v).dlen = s.dlen := rfl
@[simp] theorem State.setMd5_dout : (s.setMd5 v).dout = s.dout := rfl
@[simp] theorem State.setMd5_crc8 : (s.setMd5 v).crc8 = s.crc8 := rfl
@[simp] theorem State.setMd5_crc16 : (s.setMd5 v).crc16 = s.crc16 := rfl
@[simp] theorem State.setMd5_crc32 : (s.setMd5 v).crc32 = s.crc32 := rfl
@[simp] theorem State.setMd5_crc32T : (s.setMd5 v).crc32T = s.crc32T := rfl
@[simp] theorem State.setMd5_md5 : (s.setMd5 v).md5 = v := rfl
@[simp] theorem State.setMd5_sha1 : (s.setMd5 v).sha1 = s.sha1 := rfl
@[simp] theorem State.setMd5_s256Var : (s.setMd5 v).s256Var = s.s256Var := rfl
@[simp] theorem State.setMd5_s256 : (s.setMd5 v).s256 = s.s256 := rfl
@[simp] theorem State.setMd5_s512Var : (s.setMd5 v).s512Var = s.s512Var := rfl
@[simp] theorem State.setMd5_s512 : (s.setMd5 v).s512 = s.s512 := rfl
@[simp] theorem State.setMd5_pending : (s.setMd5 v).pending = s.pending := rfl
@[simp] theorem State.setMd5_responses : (s.setMd5 v).responses = s.responses := rfl
end

section
variable (s : State) (v : MdRecord Words5 Config.cursorWidth32)

@[simp] theorem State.setSha1_sel : (s.setSha1 v).sel = s.sel := rfl
@[simp] theorem State.setSha1_err : (s.setSha1 v).err = s.err := rfl
@[simp] theorem State.setSha1_dlen : (s.setSha1 v).dlen = s.dlen := rfl
@[simp] theorem State.setSha1_dout : (s.setSha1 v).dout = s.dout := rfl
@[simp] theorem State.setSha1_crc8 : (s.setSha1 v).crc8 = s.crc8 := rfl
@[simp] theorem State.setSha1_crc16 : (s.setSha1 v).crc16 = s.crc16 := rfl
@[simp] theorem State.setSha1_crc32 : (s.setSha1 v).crc32 = s.crc32 := rfl
@[simp] theorem State.setSha1_crc32T : (s.setSha1 v).crc32T = s.crc32T := rfl
@[simp] theorem State.setSha1_md5 : (s.setSha1 v).md5 = s.md5 := rfl
@[simp] theorem State.setSha1_sha1 : (s.setSha1 v).sha1 = v := rfl
@[simp] theorem State.setSha1_s256Var : (s.setSha1 v).s256Var = s.s256Var := rfl
@[simp] theorem State.setSha1_s256 : (s.setSha1 v).s256 = s.s256 := rfl
@[simp] theorem State.setSha1_s512Var : (s.setSha1 v).s512Var = s.s512Var := rfl
@[simp] theorem State.setSha1_s512 : (s.setSha1 v).s512 = s.s512 := rfl
@[simp] theorem State.setSha1_pending : (s.setSha1 v).pending = s.pending := rfl
@[simp] theorem State.setSha1_responses : (s.setSha1 v).responses = s.responses := rfl
end

section
variable (s : State) (v : BitVec 1)

@[simp] theorem State.setS256Var_sel : (s.setS256Var v).sel = s.sel := rfl
@[simp] theorem State.setS256Var_err : (s.setS256Var v).err = s.err := rfl
@[simp] theorem State.setS256Var_dlen : (s.setS256Var v).dlen = s.dlen := rfl
@[simp] theorem State.setS256Var_dout : (s.setS256Var v).dout = s.dout := rfl
@[simp] theorem State.setS256Var_crc8 : (s.setS256Var v).crc8 = s.crc8 := rfl
@[simp] theorem State.setS256Var_crc16 : (s.setS256Var v).crc16 = s.crc16 := rfl
@[simp] theorem State.setS256Var_crc32 : (s.setS256Var v).crc32 = s.crc32 := rfl
@[simp] theorem State.setS256Var_crc32T : (s.setS256Var v).crc32T = s.crc32T := rfl
@[simp] theorem State.setS256Var_md5 : (s.setS256Var v).md5 = s.md5 := rfl
@[simp] theorem State.setS256Var_sha1 : (s.setS256Var v).sha1 = s.sha1 := rfl
@[simp] theorem State.setS256Var_s256Var : (s.setS256Var v).s256Var = v := rfl
@[simp] theorem State.setS256Var_s256 : (s.setS256Var v).s256 = s.s256 := rfl
@[simp] theorem State.setS256Var_s512Var : (s.setS256Var v).s512Var = s.s512Var := rfl
@[simp] theorem State.setS256Var_s512 : (s.setS256Var v).s512 = s.s512 := rfl
@[simp] theorem State.setS256Var_pending : (s.setS256Var v).pending = s.pending := rfl
@[simp] theorem State.setS256Var_responses : (s.setS256Var v).responses = s.responses := rfl
end

section
variable (s : State) (v : MdRecord (Words8 32) Config.cursorWidth32)

@[simp] theorem State.setS256_sel : (s.setS256 v).sel = s.sel := rfl
@[simp] theorem State.setS256_err : (s.setS256 v).err = s.err := rfl
@[simp] theorem State.setS256_dlen : (s.setS256 v).dlen = s.dlen := rfl
@[simp] theorem State.setS256_dout : (s.setS256 v).dout = s.dout := rfl
@[simp] theorem State.setS256_crc8 : (s.setS256 v).crc8 = s.crc8 := rfl
@[simp] theorem State.setS256_crc16 : (s.setS256 v).crc16 = s.crc16 := rfl
@[simp] theorem State.setS256_crc32 : (s.setS256 v).crc32 = s.crc32 := rfl
@[simp] theorem State.setS256_crc32T : (s.setS256 v).crc32T = s.crc32T := rfl
@[simp] theorem State.setS256_md5 : (s.setS256 v).md5 = s.md5 := rfl
@[simp] theorem State.setS256_sha1 : (s.setS256 v).sha1 = s.sha1 := rfl
@[simp] theorem State.setS256_s256Var : (s.setS256 v).s256Var = s.s256Var := rfl
@[simp] theorem State.setS256_s256 : (s.setS256 v).s256 = v := rfl
@[simp] theorem State.setS256_s512Var : (s.setS256 v).s512Var = s.s512Var := rfl
@[simp] theorem State.setS256_s512 : (s.setS256 v).s512 = s.s512 := rfl
@[simp] theorem State.setS256_pending : (s.setS256 v).pending = s.pending := rfl
@[simp] theorem State.setS256_responses : (s.setS256 v).responses = s.responses := rfl
end

section
variable (s : State) (v : BitVec 1)

@[simp] theorem State.setS512Var_sel : (s.setS512Var v).sel = s.sel := rfl
@[simp] theorem State.setS512Var_err : (s.setS512Var v).err = s.err := rfl
@[simp] theorem State.setS512Var_dlen : (s.setS512Var v).dlen = s.dlen := rfl
@[simp] theorem State.setS512Var_dout : (s.setS512Var v).dout = s.dout := rfl
@[simp] theorem State.setS512Var_crc8 : (s.setS512Var v).crc8 = s.crc8 := rfl
@[simp] theorem State.setS512Var_crc16 : (s.setS512Var v).crc16 = s.crc16 := rfl
@[simp] theorem State.setS512Var_crc32 : (s.setS512Var v).crc32 = s.crc32 := rfl
@[simp] theorem State.setS512Var_crc32T : (s.setS512Var v).crc32T = s.crc32T := rfl
@[simp] theorem State.setS512Var_md5 : (s.setS512Var v).md5 = s.md5 := rfl
@[simp] theorem State.setS512Var_sha1 : (s.setS512Var v).sha1 = s.sha1 := rfl
@[simp] theorem State.setS512Var_s256Var : (s.setS512Var v).s256Var = s.s256Var := rfl
@[simp] theorem State.setS512Var_s256 : (s.setS512Var v).s256 = s.s256 := rfl
@[simp] theorem State.setS512Var_s512Var : (s.setS512Var v).s512Var = v := rfl
@[simp] theorem State.setS512Var_s512 : (s.setS512Var v).s512 = s.s512 := rfl
@[simp] theorem State.setS512Var_pending : (s.setS512Var v).pending = s.pending := rfl
@[simp] theorem State.setS512Var_responses : (s.setS512Var v).responses = s.responses := rfl
end

section
variable (s : State) (v : MdRecord (Words8 64) Config.cursorWidth64)

@[simp] theorem State.setS512_sel : (s.setS512 v).sel = s.sel := rfl
@[simp] theorem State.setS512_err : (s.setS512 v).err = s.err := rfl
@[simp] theorem State.setS512_dlen : (s.setS512 v).dlen = s.dlen := rfl
@[simp] theorem State.setS512_dout : (s.setS512 v).dout = s.dout := rfl
@[simp] theorem State.setS512_crc8 : (s.setS512 v).crc8 = s.crc8 := rfl
@[simp] theorem State.setS512_crc16 : (s.setS512 v).crc16 = s.crc16 := rfl
@[simp] theorem State.setS512_crc32 : (s.setS512 v).crc32 = s.crc32 := rfl
@[simp] theorem State.setS512_crc32T : (s.setS512 v).crc32T = s.crc32T := rfl
@[simp] theorem State.setS512_md5 : (s.setS512 v).md5 = s.md5 := rfl
@[simp] theorem State.setS512_sha1 : (s.setS512 v).sha1 = s.sha1 := rfl
@[simp] theorem State.setS512_s256Var : (s.setS512 v).s256Var = s.s256Var := rfl
@[simp] theorem State.setS512_s256 : (s.setS512 v).s256 = s.s256 := rfl
@[simp] theorem State.setS512_s512Var : (s.setS512 v).s512Var = s.s512Var := rfl
@[simp] theorem State.setS512_s512 : (s.setS512 v).s512 = v := rfl
@[simp] theorem State.setS512_pending : (s.setS512 v).pending = s.pending := rfl
@[simp] theorem State.setS512_responses : (s.setS512 v).responses = s.responses := rfl
end

section
variable (s : State) (v : List HostMove)

@[simp] theorem State.setPending_sel : (s.setPending v).sel = s.sel := rfl
@[simp] theorem State.setPending_err : (s.setPending v).err = s.err := rfl
@[simp] theorem State.setPending_dlen : (s.setPending v).dlen = s.dlen := rfl
@[simp] theorem State.setPending_dout : (s.setPending v).dout = s.dout := rfl
@[simp] theorem State.setPending_crc8 : (s.setPending v).crc8 = s.crc8 := rfl
@[simp] theorem State.setPending_crc16 : (s.setPending v).crc16 = s.crc16 := rfl
@[simp] theorem State.setPending_crc32 : (s.setPending v).crc32 = s.crc32 := rfl
@[simp] theorem State.setPending_crc32T : (s.setPending v).crc32T = s.crc32T := rfl
@[simp] theorem State.setPending_md5 : (s.setPending v).md5 = s.md5 := rfl
@[simp] theorem State.setPending_sha1 : (s.setPending v).sha1 = s.sha1 := rfl
@[simp] theorem State.setPending_s256Var : (s.setPending v).s256Var = s.s256Var := rfl
@[simp] theorem State.setPending_s256 : (s.setPending v).s256 = s.s256 := rfl
@[simp] theorem State.setPending_s512Var : (s.setPending v).s512Var = s.s512Var := rfl
@[simp] theorem State.setPending_s512 : (s.setPending v).s512 = s.s512 := rfl
@[simp] theorem State.setPending_pending : (s.setPending v).pending = v := rfl
@[simp] theorem State.setPending_responses : (s.setPending v).responses = s.responses := rfl
end

section
variable (s : State) (r : Response)

@[simp] theorem State.pushResponse_sel : (s.pushResponse r).sel = s.sel := rfl
@[simp] theorem State.pushResponse_err : (s.pushResponse r).err = s.err := rfl
@[simp] theorem State.pushResponse_dlen : (s.pushResponse r).dlen = s.dlen := rfl
@[simp] theorem State.pushResponse_dout : (s.pushResponse r).dout = s.dout := rfl
@[simp] theorem State.pushResponse_crc8 : (s.pushResponse r).crc8 = s.crc8 := rfl
@[simp] theorem State.pushResponse_crc16 : (s.pushResponse r).crc16 = s.crc16 := rfl
@[simp] theorem State.pushResponse_crc32 : (s.pushResponse r).crc32 = s.crc32 := rfl
@[simp] theorem State.pushResponse_crc32T : (s.pushResponse r).crc32T = s.crc32T := rfl
@[simp] theorem State.pushResponse_md5 : (s.pushResponse r).md5 = s.md5 := rfl
@[simp] theorem State.pushResponse_sha1 : (s.pushResponse r).sha1 = s.sha1 := rfl
@[simp] theorem State.pushResponse_s256Var : (s.pushResponse r).s256Var = s.s256Var := rfl
@[simp] theorem State.pushResponse_s256 : (s.pushResponse r).s256 = s.s256 := rfl
@[simp] theorem State.pushResponse_s512Var : (s.pushResponse r).s512Var = s.s512Var := rfl
@[simp] theorem State.pushResponse_s512 : (s.pushResponse r).s512 = s.s512 := rfl
@[simp] theorem State.pushResponse_pending : (s.pushResponse r).pending = s.pending := rfl
@[simp] theorem State.pushResponse_responses : (s.pushResponse r).responses = s.responses ++ [r] := rfl
end

section
variable (s : State) (st : Status) (p : List Byte)

@[simp] theorem State.answer_sel : (s.answer st p).sel = s.sel := rfl
@[simp] theorem State.answer_err : (s.answer st p).err = statusCode st := rfl
@[simp] theorem State.answer_dlen : (s.answer st p).dlen = s.dlen := rfl
@[simp] theorem State.answer_dout : (s.answer st p).dout = s.dout := rfl
@[simp] theorem State.answer_crc8 : (s.answer st p).crc8 = s.crc8 := rfl
@[simp] theorem State.answer_crc16 : (s.answer st p).crc16 = s.crc16 := rfl
@[simp] theorem State.answer_crc32 : (s.answer st p).crc32 = s.crc32 := rfl
@[simp] theorem State.answer_crc32T : (s.answer st p).crc32T = s.crc32T := rfl
@[simp] theorem State.answer_md5 : (s.answer st p).md5 = s.md5 := rfl
@[simp] theorem State.answer_sha1 : (s.answer st p).sha1 = s.sha1 := rfl
@[simp] theorem State.answer_s256Var : (s.answer st p).s256Var = s.s256Var := rfl
@[simp] theorem State.answer_s256 : (s.answer st p).s256 = s.s256 := rfl
@[simp] theorem State.answer_s512Var : (s.answer st p).s512Var = s.s512Var := rfl
@[simp] theorem State.answer_s512 : (s.answer st p).s512 = s.s512 := rfl
@[simp] theorem State.answer_pending : (s.answer st p).pending = s.pending := rfl
@[simp] theorem State.answer_responses : (s.answer st p).responses = s.responses ++ [⟨st, p⟩] := rfl
end

section
variable (s : State)

@[simp] theorem raiseUnsupported_sel : (raiseUnsupported s).sel = s.sel := rfl
@[simp] theorem raiseUnsupported_err : (raiseUnsupported s).err = 1 := rfl
@[simp] theorem raiseUnsupported_dlen : (raiseUnsupported s).dlen = s.dlen := rfl
@[simp] theorem raiseUnsupported_dout : (raiseUnsupported s).dout = s.dout := rfl
@[simp] theorem raiseUnsupported_crc8 : (raiseUnsupported s).crc8 = s.crc8 := rfl
@[simp] theorem raiseUnsupported_crc16 : (raiseUnsupported s).crc16 = s.crc16 := rfl
@[simp] theorem raiseUnsupported_crc32 : (raiseUnsupported s).crc32 = s.crc32 := rfl
@[simp] theorem raiseUnsupported_crc32T : (raiseUnsupported s).crc32T = s.crc32T := rfl
@[simp] theorem raiseUnsupported_md5 : (raiseUnsupported s).md5 = s.md5 := rfl
@[simp] theorem raiseUnsupported_sha1 : (raiseUnsupported s).sha1 = s.sha1 := rfl
@[simp] theorem raiseUnsupported_s256Var : (raiseUnsupported s).s256Var = s.s256Var := rfl
@[simp] theorem raiseUnsupported_s256 : (raiseUnsupported s).s256 = s.s256 := rfl
@[simp] theorem raiseUnsupported_s512Var : (raiseUnsupported s).s512Var = s.s512Var := rfl
@[simp] theorem raiseUnsupported_s512 : (raiseUnsupported s).s512 = s.s512 := rfl
@[simp] theorem raiseUnsupported_pending : (raiseUnsupported s).pending = s.pending := rfl
@[simp] theorem raiseUnsupported_responses : (raiseUnsupported s).responses = s.responses ++ [⟨.unsupportedAlgorithm, []⟩] := rfl
end

section
variable (s : State) (p : List Byte)

@[simp] theorem completeCommand_sel : (completeCommand s p).sel = s.sel := rfl
@[simp] theorem completeCommand_err : (completeCommand s p).err = 0 := rfl
@[simp] theorem completeCommand_dlen : (completeCommand s p).dlen = s.dlen := rfl
@[simp] theorem completeCommand_dout : (completeCommand s p).dout = s.dout := rfl
@[simp] theorem completeCommand_crc8 : (completeCommand s p).crc8 = s.crc8 := rfl
@[simp] theorem completeCommand_crc16 : (completeCommand s p).crc16 = s.crc16 := rfl
@[simp] theorem completeCommand_crc32 : (completeCommand s p).crc32 = s.crc32 := rfl
@[simp] theorem completeCommand_crc32T : (completeCommand s p).crc32T = s.crc32T := rfl
@[simp] theorem completeCommand_md5 : (completeCommand s p).md5 = s.md5 := rfl
@[simp] theorem completeCommand_sha1 : (completeCommand s p).sha1 = s.sha1 := rfl
@[simp] theorem completeCommand_s256Var : (completeCommand s p).s256Var = s.s256Var := rfl
@[simp] theorem completeCommand_s256 : (completeCommand s p).s256 = s.s256 := rfl
@[simp] theorem completeCommand_s512Var : (completeCommand s p).s512Var = s.s512Var := rfl
@[simp] theorem completeCommand_s512 : (completeCommand s p).s512 = s.s512 := rfl
@[simp] theorem completeCommand_pending : (completeCommand s p).pending = s.pending := rfl
@[simp] theorem completeCommand_responses : (completeCommand s p).responses = s.responses ++ [⟨.ok, p⟩] := rfl
end

end Sys2Proof.Machine
end

