-- ==== Sys2Proof/Laws/Engines.lean ====
section
/-! SUPPORT. What the engine operations and the commands can do, field by field: each touches the record of its engine
and nothing else (10_state.md R36), and each command ends in a next state. -/

namespace Sys2Proof.Machine

/-! ### The façade's registers are no engine's (10_state.md R36) -/

section
variable (e : Engine) (b : Byte) (s : State)

@[simp] theorem resetEngine_sel : (resetEngine e s).sel = s.sel := by cases e <;> simp [resetEngine]
@[simp] theorem resetEngine_err : (resetEngine e s).err = s.err := by cases e <;> simp [resetEngine]
@[simp] theorem resetEngine_dlen : (resetEngine e s).dlen = s.dlen := by cases e <;> simp [resetEngine]
@[simp] theorem resetEngine_dout : (resetEngine e s).dout = s.dout := by cases e <;> simp [resetEngine]
@[simp] theorem resetEngine_crc32T : (resetEngine e s).crc32T = s.crc32T := by cases e <;> simp [resetEngine]
@[simp] theorem resetEngine_s256Var : (resetEngine e s).s256Var = s.s256Var := by cases e <;> simp [resetEngine]
@[simp] theorem resetEngine_s512Var : (resetEngine e s).s512Var = s.s512Var := by cases e <;> simp [resetEngine]
@[simp] theorem resetEngine_pending : (resetEngine e s).pending = s.pending := by cases e <;> simp [resetEngine]
@[simp] theorem resetEngine_responses : (resetEngine e s).responses = s.responses := by cases e <;> simp [resetEngine]

@[simp] theorem absorbEngine_sel : (absorbEngine e b s).sel = s.sel := by cases e <;> simp [absorbEngine]
@[simp] theorem absorbEngine_err : (absorbEngine e b s).err = s.err := by cases e <;> simp [absorbEngine]
@[simp] theorem absorbEngine_dlen : (absorbEngine e b s).dlen = s.dlen := by cases e <;> simp [absorbEngine]
@[simp] theorem absorbEngine_dout : (absorbEngine e b s).dout = s.dout := by cases e <;> simp [absorbEngine]
@[simp] theorem absorbEngine_crc32T : (absorbEngine e b s).crc32T = s.crc32T := by cases e <;> simp [absorbEngine]
@[simp] theorem absorbEngine_s256Var : (absorbEngine e b s).s256Var = s.s256Var := by cases e <;> simp [absorbEngine]
@[simp] theorem absorbEngine_s512Var : (absorbEngine e b s).s512Var = s.s512Var := by cases e <;> simp [absorbEngine]
@[simp] theorem absorbEngine_pending : (absorbEngine e b s).pending = s.pending := by cases e <;> simp [absorbEngine]
@[simp] theorem absorbEngine_responses : (absorbEngine e b s).responses = s.responses := by cases e <;> simp [absorbEngine]

@[simp] theorem finalEngine_sel : (finalEngine e s).sel = s.sel := by cases e <;> simp [finalEngine]
@[simp] theorem finalEngine_err : (finalEngine e s).err = s.err := by cases e <;> simp [finalEngine]
@[simp] theorem finalEngine_dlen : (finalEngine e s).dlen = s.dlen := by cases e <;> simp [finalEngine]
@[simp] theorem finalEngine_dout : (finalEngine e s).dout = s.dout := by cases e <;> simp [finalEngine]
@[simp] theorem finalEngine_crc32T : (finalEngine e s).crc32T = s.crc32T := by cases e <;> simp [finalEngine]
@[simp] theorem finalEngine_s256Var : (finalEngine e s).s256Var = s.s256Var := by cases e <;> simp [finalEngine]
@[simp] theorem finalEngine_s512Var : (finalEngine e s).s512Var = s.s512Var := by cases e <;> simp [finalEngine]
@[simp] theorem finalEngine_pending : (finalEngine e s).pending = s.pending := by cases e <;> simp [finalEngine]
@[simp] theorem finalEngine_responses : (finalEngine e s).responses = s.responses := by cases e <;> simp [finalEngine]

end

/-! ### The record of each engine -/

section
variable (e : Engine) (b : Byte) (s : State)

theorem resetEngine_crc8 : (resetEngine e s).crc8 = if e = .crc8 then crc8Reset else s.crc8 := by
  cases e <;> simp [resetEngine]

theorem resetEngine_crc16 : (resetEngine e s).crc16 = if e = .crc16 then crc16Reset else s.crc16 := by
  cases e <;> simp [resetEngine]

theorem resetEngine_crc32 : (resetEngine e s).crc32 = if e = .crc32 then crc32Reset else s.crc32 := by
  cases e <;> simp [resetEngine]

theorem resetEngine_md5 : (resetEngine e s).md5 = if e = .md5 then mdReset md5Shell s.md5 else s.md5 := by
  cases e <;> simp [resetEngine]

theorem resetEngine_sha1 : (resetEngine e s).sha1 = if e = .sha1 then mdReset sha1Shell s.sha1 else s.sha1 := by
  cases e <;> simp [resetEngine]

theorem resetEngine_s256 : (resetEngine e s).s256 = if e = .s256 then mdReset (s256Shell s.s256Var) s.s256 else s.s256 := by
  cases e <;> simp [resetEngine]

theorem resetEngine_s512 : (resetEngine e s).s512 = if e = .s512 then mdReset (s512Shell s.s512Var) s.s512 else s.s512 := by
  cases e <;> simp [resetEngine]

theorem absorbEngine_crc8 : (absorbEngine e b s).crc8 = if e = .crc8 then crc8Absorb s.crc8 b else s.crc8 := by
  cases e <;> simp [absorbEngine]

theorem absorbEngine_crc16 : (absorbEngine e b s).crc16 = if e = .crc16 then crc16Absorb s.crc16 b else s.crc16 := by
  cases e <;> simp [absorbEngine]

theorem absorbEngine_crc32 : (absorbEngine e b s).crc32 = if e = .crc32 then crc32Absorb s.crc32T s.crc32 b else s.crc32 := by
  cases e <;> simp [absorbEngine]

theorem absorbEngine_md5 : (absorbEngine e b s).md5 = if e = .md5 then mdAbsorb md5Shell s.md5 b else s.md5 := by
  cases e <;> simp [absorbEngine]

theorem absorbEngine_sha1 : (absorbEngine e b s).sha1 = if e = .sha1 then mdAbsorb sha1Shell s.sha1 b else s.sha1 := by
  cases e <;> simp [absorbEngine]

theorem absorbEngine_s256 : (absorbEngine e b s).s256 = if e = .s256 then mdAbsorb (s256Shell s.s256Var) s.s256 b else s.s256 := by
  cases e <;> simp [absorbEngine]

theorem absorbEngine_s512 : (absorbEngine e b s).s512 = if e = .s512 then mdAbsorb (s512Shell s.s512Var) s.s512 b else s.s512 := by
  cases e <;> simp [absorbEngine]

@[simp] theorem finalEngine_crc8 : (finalEngine e s).crc8 = s.crc8 := by cases e <;> simp [finalEngine]

@[simp] theorem finalEngine_crc16 : (finalEngine e s).crc16 = s.crc16 := by cases e <;> simp [finalEngine]

@[simp] theorem finalEngine_crc32 : (finalEngine e s).crc32 = s.crc32 := by cases e <;> simp [finalEngine]

theorem finalEngine_md5 : (finalEngine e s).md5 = if e = .md5 then mdFinal md5Shell s.md5 else s.md5 := by
  cases e <;> simp [finalEngine]

theorem finalEngine_sha1 : (finalEngine e s).sha1 = if e = .sha1 then mdFinal sha1Shell s.sha1 else s.sha1 := by
  cases e <;> simp [finalEngine]

theorem finalEngine_s256 : (finalEngine e s).s256 = if e = .s256 then mdFinal (s256Shell s.s256Var) s.s256 else s.s256 := by
  cases e <;> simp [finalEngine]

theorem finalEngine_s512 : (finalEngine e s).s512 = if e = .s512 then mdFinal (s512Shell s.s512Var) s.s512 else s.s512 := by
  cases e <;> simp [finalEngine]

end

/-! ### The writes of the variant bits -/

section
variable (sel : BitVec 4) (s : State)

/-- NEW's write of the two variant bits, as two register updates. -/
theorem setVariant_eq : setVariant sel s =
    (s.setS256Var ((s256VarOf sel).getD s.s256Var)).setS512Var ((s512VarOf sel).getD s.s512Var) := by
  unfold setVariant
  cases s256VarOf sel <;> cases s512VarOf sel <;> rfl

@[simp] theorem setVariant_sel : (setVariant sel s).sel = s.sel := by rw [setVariant_eq]; rfl
@[simp] theorem setVariant_err : (setVariant sel s).err = s.err := by rw [setVariant_eq]; rfl
@[simp] theorem setVariant_dlen : (setVariant sel s).dlen = s.dlen := by rw [setVariant_eq]; rfl
@[simp] theorem setVariant_dout : (setVariant sel s).dout = s.dout := by rw [setVariant_eq]; rfl
@[simp] theorem setVariant_crc8 : (setVariant sel s).crc8 = s.crc8 := by rw [setVariant_eq]; rfl
@[simp] theorem setVariant_crc16 : (setVariant sel s).crc16 = s.crc16 := by rw [setVariant_eq]; rfl
@[simp] theorem setVariant_crc32 : (setVariant sel s).crc32 = s.crc32 := by rw [setVariant_eq]; rfl
@[simp] theorem setVariant_crc32T : (setVariant sel s).crc32T = s.crc32T := by rw [setVariant_eq]; rfl
@[simp] theorem setVariant_md5 : (setVariant sel s).md5 = s.md5 := by rw [setVariant_eq]; rfl
@[simp] theorem setVariant_sha1 : (setVariant sel s).sha1 = s.sha1 := by rw [setVariant_eq]; rfl
@[simp] theorem setVariant_s256 : (setVariant sel s).s256 = s.s256 := by rw [setVariant_eq]; rfl
@[simp] theorem setVariant_s512 : (setVariant sel s).s512 = s.s512 := by rw [setVariant_eq]; rfl
@[simp] theorem setVariant_pending : (setVariant sel s).pending = s.pending := by rw [setVariant_eq]; rfl
@[simp] theorem setVariant_responses : (setVariant sel s).responses = s.responses := by rw [setVariant_eq]; rfl

theorem setVariant_s256Var : (setVariant sel s).s256Var = (s256VarOf sel).getD s.s256Var := by
  rw [setVariant_eq]; rfl

theorem setVariant_s512Var : (setVariant sel s).s512Var = (s512VarOf sel).getD s.s512Var := by
  rw [setVariant_eq]; rfl

end

/-! ### The digest register -/

section
variable (d : List Byte) (s : State)

@[simp] theorem storeDigest_sel : (storeDigest d s).sel = s.sel := rfl
@[simp] theorem storeDigest_err : (storeDigest d s).err = s.err := rfl
@[simp] theorem storeDigest_crc8 : (storeDigest d s).crc8 = s.crc8 := rfl
@[simp] theorem storeDigest_crc16 : (storeDigest d s).crc16 = s.crc16 := rfl
@[simp] theorem storeDigest_crc32 : (storeDigest d s).crc32 = s.crc32 := rfl
@[simp] theorem storeDigest_crc32T : (storeDigest d s).crc32T = s.crc32T := rfl
@[simp] theorem storeDigest_md5 : (storeDigest d s).md5 = s.md5 := rfl
@[simp] theorem storeDigest_sha1 : (storeDigest d s).sha1 = s.sha1 := rfl
@[simp] theorem storeDigest_s256Var : (storeDigest d s).s256Var = s.s256Var := rfl
@[simp] theorem storeDigest_s256 : (storeDigest d s).s256 = s.s256 := rfl
@[simp] theorem storeDigest_s512Var : (storeDigest d s).s512Var = s.s512Var := rfl
@[simp] theorem storeDigest_s512 : (storeDigest d s).s512 = s.s512 := rfl
@[simp] theorem storeDigest_pending : (storeDigest d s).pending = s.pending := rfl
@[simp] theorem storeDigest_responses : (storeDigest d s).responses = s.responses := rfl

@[simp] theorem storeDigest_dlen : (storeDigest d s).dlen = BitVec.ofNat 7 d.length := rfl
@[simp] theorem storeDigest_dout : (storeDigest d s).dout = s.dout.writeBytes 0 d := rfl

end

/-! ### The selectors -/

/-- The dispatch function names an engine for exactly the nine legal selectors (46_facade_hex.md R291). -/
theorem engineOf_eq_none_iff : ∀ sel : BitVec 4, engineOf sel = none ↔ 9 ≤ sel.toNat := by decide

/-- The seven engines by the selectors that name them (46_facade_hex.md R291). -/
theorem engineOf_eq_some_iff : ∀ sel : BitVec 4,
    (engineOf sel = some .crc8 ↔ sel = 3) ∧ (engineOf sel = some .crc16 ↔ sel = 4) ∧
    (engineOf sel = some .crc32 ↔ sel = 2) ∧ (engineOf sel = some .md5 ↔ sel = 1) ∧
    (engineOf sel = some .sha1 ↔ sel = 5) ∧ (engineOf sel = some .s256 ↔ sel = 0 ∨ sel = 6) ∧
    (engineOf sel = some .s512 ↔ sel = 7 ∨ sel = 8) := by decide

/-! ### The commands: all a command can do -/

/-- NEW raises, or completes with the engine reset under the variant just set (46_facade_hex.md R292). -/
theorem newCommand_cases (sel : BitVec 4) (s : State) :
    (engineOf sel = none ∧ newCommand sel s = raiseUnsupported (s.setSel sel)) ∨
    (∃ e, engineOf sel = some e ∧
      newCommand sel s = completeCommand (resetEngine e (setVariant sel (s.setSel sel))) []) := by
  unfold newCommand
  cases h : engineOf sel <;> simp

/-- BYTE raises, or completes with the byte absorbed (46_facade_hex.md R293). -/
theorem byteCommand_cases (b : Byte) (s : State) :
    (engineOf s.sel = none ∧ byteCommand b s = raiseUnsupported s) ∨
    (∃ e, engineOf s.sel = some e ∧ byteCommand b s = completeCommand (absorbEngine e b s) []) := by
  unfold byteCommand
  cases h : engineOf s.sel <;> simp

/-- FINISH raises, or completes with the digest stored and the engine reset (46_facade_hex.md R294). -/
theorem finishCommand_cases (s : State) :
    (engineOf s.sel = none ∧ finishCommand s = raiseUnsupported s) ∨
    (∃ e, engineOf s.sel = some e ∧
      finishCommand s =
        completeCommand (resetEngine e (storeDigest (digestEngine e s) (finalEngine e s)))
          (hexEnc (digestEngine e s))) := by
  unfold finishCommand
  cases h : engineOf s.sel <;> simp

/-- The selector a NEW command carries. -/
def newSel? : Instr → Option (BitVec 4)
  | .newSha256 => some 0x0
  | .newMd5 => some 0x1
  | .newCrc32 => some 0x2
  | .newCrc8 => some 0x3
  | .newCrc16 => some 0x4
  | .newSha1 => some 0x5
  | .newSha224 => some 0x6
  | .newSha384 => some 0x7
  | .newSha512 => some 0x8
  | .newUnsupported9 => some 0x9
  | .newUnsupportedAB sel => some sel
  | .newUnsupportedCF sel => some sel
  | .byteImm _ => none
  | .finish => none

/-- Every command answers a next state: that of NEW with its selector, of BYTE or of FINISH. -/
theorem exec_cases (i : Instr) (s : State) :
    (∃ sel, newSel? i = some sel ∧ exec i s = .next (newCommand sel s)) ∨
    (∃ b, i = .byteImm b ∧ exec i s = .next (byteCommand b s)) ∨
    (i = .finish ∧ exec i s = .next (finishCommand s)) := by
  cases i with
  | byteImm b => exact .inr (.inl ⟨b, rfl, rfl⟩)
  | finish => exact .inr (.inr ⟨rfl, rfl⟩)
  | _ => exact .inl ⟨_, rfl, rfl⟩

end Sys2Proof.Machine
end

