-- ==== Sys2Proof/Laws/Memory.lean ====
section
/-! SUPPORT. The byte spaces: a byte reads back as last written, a write leaves every other byte alone, and every
operation keeps the canonical form (20_memory.md R61). -/

namespace Sys2Proof.Machine

/-! ### Small lemmas of the definitions -/

@[simp] theorem Memory.read_nil (a : Nat) : Memory.read [] a = Config.unwrittenByte := rfl

theorem Memory.read_cons (b : Nat) (w : Byte) (m : Memory) (a : Nat) :
    Memory.read ((b, w) :: m) a = if b = a then w else m.read a := rfl

theorem Memory.wf_nil (size : Nat) : Memory.wf size [] := by simp [Memory.wf]

theorem Memory.wf_cons_iff {size b : Nat} {w : Byte} {m : Memory} :
    Memory.wf size ((b, w) :: m) ↔
      b < size ∧ w ≠ Config.unwrittenByte ∧ (∀ c ∈ m, b < c.1) ∧ Memory.wf size m := by
  simp only [Memory.wf, List.pairwise_cons, List.forall_mem_cons]
  tauto

/-- Below every listed index a memory reads as unlisted. -/
theorem Memory.read_of_lt {m : Memory} {a : Nat} (h : ∀ c ∈ m, a < c.1) :
    m.read a = Config.unwrittenByte := by
  induction m with
  | nil => rfl
  | cons c m ih =>
    have hc := h c (by simp)
    rw [Memory.read_cons, if_neg (by omega)]
    exact ih fun d hd => h d (by simp [hd])

theorem Memory.mem_put {a : Nat} {v : Byte} {m : Memory} {c : Host.Cell} (h : c ∈ Memory.put a v m) :
    c = (a, v) ∨ c ∈ m := by
  unfold Memory.put at h
  split at h
  · exact .inr h
  · simpa using h

theorem Memory.mem_write {m : Memory} {a : Nat} {v : Byte} {c : Host.Cell} (h : c ∈ m.write a v) :
    c = (a, v) ∨ c ∈ m := by
  induction m with
  | nil => simpa using Memory.mem_put h
  | cons d m ih =>
    obtain ⟨b, w⟩ := d
    unfold Memory.write at h
    split at h
    · exact Memory.mem_put h
    · split at h
      · exact (Memory.mem_put h).imp_right (List.mem_cons_of_mem _)
      · rcases List.mem_cons.mp h with rfl | h
        · simp
        · exact (ih h).imp_right (List.mem_cons_of_mem _)

/-! ### The canonical form is kept -/

theorem Memory.wf_put {size a : Nat} {v : Byte} {m : Memory} (hm : m.wf size) (ha : a < size)
    (hlt : ∀ c ∈ m, a < c.1) : (Memory.put a v m).wf size := by
  unfold Memory.put
  split
  · exact hm
  · next hv => exact Memory.wf_cons_iff.mpr ⟨ha, hv, hlt, hm⟩

/-- A store in range keeps the canonical form. -/
theorem Memory.wf_write {size a : Nat} {v : Byte} {m : Memory} (hm : m.wf size) (ha : a < size) :
    (m.write a v).wf size := by
  induction m with
  | nil => exact Memory.wf_put hm ha (by simp)
  | cons d m ih =>
    obtain ⟨b, w⟩ := d
    obtain ⟨hb, hw, hlt, hm'⟩ := Memory.wf_cons_iff.mp hm
    unfold Memory.write
    split
    · next hab =>
      refine Memory.wf_put hm ha ?_
      intro c hc
      rcases List.mem_cons.mp hc with rfl | hc
      · exact hab
      · exact hab.trans (hlt c hc)
    · split
      · next hab => subst hab; exact Memory.wf_put hm' ha hlt
      · refine Memory.wf_cons_iff.mpr ⟨hb, hw, ?_, ih hm'⟩
        intro c hc
        rcases Memory.mem_write hc with rfl | hc
        · show b < a
          omega
        · exact hlt c hc

/-- A multi-byte store in range keeps the canonical form. -/
theorem Memory.wf_writeBytes {size : Nat} (vs : List Byte) {a : Nat} {m : Memory} (hm : m.wf size)
    (ha : a + vs.length ≤ size) : (m.writeBytes a vs).wf size := by
  induction vs generalizing a m with
  | nil => exact hm
  | cons v vs ih =>
    simp only [List.length_cons] at ha
    exact ih (Memory.wf_write hm (by omega)) (by omega)

/-- A zero fill in range keeps the canonical form. -/
theorem Memory.wf_zeroFill {size a n : Nat} {m : Memory} (hm : m.wf size) (ha : a + n ≤ size) :
    (m.zeroFill a n).wf size :=
  Memory.wf_writeBytes _ hm (by simpa using ha)

/-! ### Reading after writing -/

theorem Memory.read_put {a b : Nat} {v : Byte} {m : Memory} (hlt : ∀ c ∈ m, a < c.1) :
    (Memory.put a v m).read b = if b = a then v else m.read b := by
  unfold Memory.put
  split
  · next hv =>
    split
    · next hab => subst hab; rw [Memory.read_of_lt hlt, hv]
    · rfl
  · simp only [Memory.read_cons, eq_comm]

/-- What one byte reads as after one store: the value stored at its index, every other index as before. -/
theorem Memory.read_write {size a b : Nat} {v : Byte} {m : Memory} (hm : m.wf size) :
    (m.write a v).read b = if b = a then v else m.read b := by
  induction m with
  | nil => exact Memory.read_put (by simp)
  | cons d m ih =>
    obtain ⟨c, w⟩ := d
    obtain ⟨hc, hw, hlt, hm'⟩ := Memory.wf_cons_iff.mp hm
    unfold Memory.write
    split
    · next hac =>
      refine Memory.read_put ?_
      intro e he
      rcases List.mem_cons.mp he with rfl | he
      · exact hac
      · exact hac.trans (hlt e he)
    · split
      · next hac =>
        subst hac
        rw [Memory.read_put hlt, Memory.read_cons]
        split
        · rfl
        · rw [if_neg (by omega)]
      · next hne hac =>
        rw [Memory.read_cons, ih hm', Memory.read_cons]
        split
        · next h => rw [if_neg (by omega)]
        · rfl

/-- What one byte reads as after a multi-byte store in range. -/
theorem Memory.read_writeBytes {size : Nat} (vs : List Byte) {a b : Nat} {m : Memory} (hm : m.wf size)
    (ha : a + vs.length ≤ size) :
    (m.writeBytes a vs).read b =
      if a ≤ b ∧ b < a + vs.length then vs.getD (b - a) 0 else m.read b := by
  induction vs generalizing a m with
  | nil => simp [Memory.writeBytes]
  | cons v vs ih =>
    simp only [List.length_cons] at ha ⊢
    rw [Memory.writeBytes, ih (Memory.wf_write hm (by omega)) (by omega), Memory.read_write hm]
    by_cases hb : b = a
    · subst hb; simp
    · by_cases h : a + 1 ≤ b ∧ b < a + 1 + vs.length
      · rw [if_pos h, if_pos (by omega), show b - a = (b - (a + 1)) + 1 by omega]; simp
      · rw [if_neg h, if_neg hb, if_neg (by omega)]

/-- What one byte reads as after a zero fill in range. -/
theorem Memory.read_zeroFill {size a n b : Nat} {m : Memory} (hm : m.wf size) (ha : a + n ≤ size) :
    (m.zeroFill a n).read b = if a ≤ b ∧ b < a + n then 0x00 else m.read b := by
  rw [Memory.zeroFill, Memory.read_writeBytes _ hm (by simpa using ha)]
  simp only [List.length_replicate]
  split
  · next h => simp [List.getD, show b - a < n by omega]
  · rfl

/-! ### Multi-byte reads -/

@[simp] theorem Memory.length_readBytes (m : Memory) (a n : Nat) : (m.readBytes a n).length = n := by
  simp [Memory.readBytes]

@[simp] theorem Memory.getElem_readBytes (m : Memory) (a n i : Nat) (h : i < (m.readBytes a n).length) :
    (m.readBytes a n)[i] = m.read (a + i) := by
  simp [Memory.readBytes]

/-- Two memories that read alike over a range give the same bytes. -/
theorem Memory.readBytes_congr {m m' : Memory} {a n : Nat}
    (h : ∀ b, a ≤ b → b < a + n → m.read b = m'.read b) : m.readBytes a n = m'.readBytes a n := by
  apply List.ext_getElem (by simp)
  intro i hi _
  simp only [Memory.length_readBytes] at hi
  simpa using h (a + i) (by omega) (by omega)

end Sys2Proof.Machine
end

