-- ==== Sys2Proof/Laws/Md.lean ====
section
/-! SUPPORT. The Merkle–Damgård shell: its field lemmas, and that ABSORB and FINAL keep the buffer in canonical form and
change only the bytes the rules name (41_md_common.md R161 to R163). -/

namespace Sys2Proof.Machine

variable {σ : Type} {cw : Nat}

/-! ### RESET -/

section
variable (sh : MdShell σ) (e : MdRecord σ cw)

@[simp] theorem mdReset_h : (mdReset sh e).h = sh.iv := rfl
@[simp] theorem mdReset_cnt : (mdReset sh e).cnt = 0 := rfl
@[simp] theorem mdReset_cur : (mdReset sh e).cur = 0 := rfl
@[simp] theorem mdReset_buf : (mdReset sh e).buf = e.buf := rfl

end

/-! ### ABSORB -/

/-- All ABSORB can do (41_md_common.md R162). -/
theorem mdAbsorb_cases (sh : MdShell σ) (e : MdRecord σ cw) (b : Byte) :
    (e.cur.toNat = 2 ^ cw - 1 ∧ mdAbsorb sh e b =
      { h := sh.compress e.h (mdBlock cw (mdStore e b)), cnt := e.cnt + 8, cur := 0, buf := mdStore e b }) ∨
    (e.cur.toNat ≠ 2 ^ cw - 1 ∧ mdAbsorb sh e b =
      { h := e.h, cnt := e.cnt + 8, cur := e.cur + 1, buf := mdStore e b }) := by
  unfold mdAbsorb
  split <;> simp_all

@[simp] theorem mdAbsorb_buf (sh : MdShell σ) (e : MdRecord σ cw) (b : Byte) :
    (mdAbsorb sh e b).buf = mdStore e b := by
  rcases mdAbsorb_cases sh e b with ⟨_, h⟩ | ⟨_, h⟩ <;> rw [h]

@[simp] theorem mdAbsorb_cnt (sh : MdShell σ) (e : MdRecord σ cw) (b : Byte) :
    (mdAbsorb sh e b).cnt = e.cnt + 8 := by
  rcases mdAbsorb_cases sh e b with ⟨_, h⟩ | ⟨_, h⟩ <;> rw [h]

/-- The cursor advances by one modulo the block size (10_state.md R35). -/
theorem mdAbsorb_cur (sh : MdShell σ) (e : MdRecord σ cw) (b : Byte) :
    (mdAbsorb sh e b).cur.toNat = (e.cur.toNat + 1) % 2 ^ cw := by
  have hlt := e.cur.isLt
  rcases mdAbsorb_cases sh e b with ⟨hc, h⟩ | ⟨hc, h⟩ <;> rw [h]
  · simp [hc, Nat.sub_add_cancel (Nat.two_pow_pos cw)]
  · have h1 : 1 < 2 ^ cw := by
      rcases Nat.eq_zero_or_pos cw with rfl | hp
      · simp at hlt hc; omega
      · exact Nat.one_lt_two_pow (by omega)
    show (e.cur.toNat + 1 % 2 ^ cw) % 2 ^ cw = _
    rw [Nat.mod_eq_of_lt h1]

/-- The store of ABSORB writes the byte at the cursor and no other (41_md_common.md R162). -/
theorem read_mdStore {e : MdRecord σ cw} (hw : e.buf.wf (2 ^ cw)) (b : Byte) (a : Nat) :
    (mdStore e b).read a = if a = e.cur.toNat then b else e.buf.read a :=
  Memory.read_write hw

theorem wf_mdStore {e : MdRecord σ cw} (hw : e.buf.wf (2 ^ cw)) (b : Byte) :
    (mdStore e b).wf (2 ^ cw) :=
  Memory.wf_write hw e.cur.isLt

/-! ### FINAL -/

/-- A shell whose length field is LF bytes wide and fits in a block after the pad byte. -/
structure MdShell.Fits (sh : MdShell σ) (cw : Nat) : Prop where
  length : ∀ l, (sh.lenField l).length = sh.lf
  fits : sh.lf < 2 ^ cw

theorem md5Shell_fits : md5Shell.Fits 6 := ⟨fun _ => rfl, by decide⟩

theorem sha1Shell_fits : sha1Shell.Fits 6 := ⟨fun _ => rfl, by decide⟩

theorem s256Shell_fits (v : BitVec 1) : (s256Shell v).Fits 6 :=
  ⟨fun _ => rfl, by simp [s256Shell]⟩

theorem s512Shell_fits (v : BitVec 1) : (s512Shell v).Fits 7 :=
  ⟨fun _ => rfl, by simp [s512Shell]⟩

theorem wf_mdPadded {e : MdRecord σ cw} (hw : e.buf.wf (2 ^ cw)) : (mdPadded e).wf (2 ^ cw) :=
  Memory.wf_write hw e.cur.isLt

theorem wf_mdExtraBuf {e : MdRecord σ cw} (hw : e.buf.wf (2 ^ cw)) : (mdExtraBuf e).wf (2 ^ cw) :=
  Memory.wf_zeroFill (wf_mdPadded hw) (by have := e.cur.isLt; omega)

/-- The extra block, byte by byte: the held bytes, the pad byte, zeros (41_md_common.md R163). -/
theorem read_mdExtraBuf {e : MdRecord σ cw} (hw : e.buf.wf (2 ^ cw)) {a : Nat} (ha : a < 2 ^ cw) :
    (mdExtraBuf e).read a =
      if a < e.cur.toNat then e.buf.read a else if a = e.cur.toNat then 0x80 else 0x00 := by
  have hc := e.cur.isLt
  rw [mdExtraBuf, Memory.read_zeroFill (wf_mdPadded hw) (by omega), mdPadded, Memory.read_write hw]
  split_ifs <;> first | rfl | omega

/-- All FINAL can do (41_md_common.md R163): two COMPRESS or one. -/
theorem mdFinal_cases (sh : MdShell σ) (e : MdRecord σ cw) :
    (2 ^ cw - sh.lf < e.cur.toNat + 1 ∧ mdFinal sh e =
      { h := sh.compress (sh.compress e.h (mdBlock cw (mdExtraBuf e))) (mdBlock cw (mdLastAfterExtra sh e))
        cnt := e.cnt, cur := e.cur, buf := mdLastAfterExtra sh e }) ∨
    (e.cur.toNat + 1 ≤ 2 ^ cw - sh.lf ∧ mdFinal sh e =
      { h := sh.compress e.h (mdBlock cw (mdLastOnly sh e))
        cnt := e.cnt, cur := e.cur, buf := mdLastOnly sh e }) := by
  unfold mdFinal
  by_cases h : 2 ^ cw - sh.lf < e.cur.toNat + 1
  · exact .inl ⟨h, if_pos (by simpa [mdNeedsExtra] using h)⟩
  · exact .inr ⟨by omega, if_neg (by simpa [mdNeedsExtra] using h)⟩

@[simp] theorem mdFinal_cnt (sh : MdShell σ) (e : MdRecord σ cw) : (mdFinal sh e).cnt = e.cnt := by
  rcases mdFinal_cases sh e with ⟨_, h⟩ | ⟨_, h⟩ <;> rw [h]

@[simp] theorem mdFinal_cur (sh : MdShell σ) (e : MdRecord σ cw) : (mdFinal sh e).cur = e.cur := by
  rcases mdFinal_cases sh e with ⟨_, h⟩ | ⟨_, h⟩ <;> rw [h]

section
variable {sh : MdShell σ} (hf : sh.Fits cw)
include hf

theorem wf_mdWithLength {buf : Memory} (hw : buf.wf (2 ^ cw)) {i : Nat} (l : BitVec 64) (hi : i ≤ 2 ^ cw - sh.lf) :
    (mdWithLength sh cw buf i l).wf (2 ^ cw) := by
  have hl := hf.fits
  refine Memory.wf_writeBytes _ (Memory.wf_zeroFill hw (by omega)) ?_
  rw [hf.length]; omega

/-- The last block, byte by byte, over what the buffer held: the length field at the end, zeros from `i` up to it. -/
theorem read_mdWithLength {buf : Memory} (hw : buf.wf (2 ^ cw)) {i : Nat} (l : BitVec 64) (hi : i ≤ 2 ^ cw - sh.lf)
    (a : Nat) :
    (mdWithLength sh cw buf i l).read a =
      if 2 ^ cw - sh.lf ≤ a ∧ a < 2 ^ cw then (sh.lenField l).getD (a - (2 ^ cw - sh.lf)) 0
      else if i ≤ a ∧ a < 2 ^ cw - sh.lf then 0x00 else buf.read a := by
  have hl := hf.fits
  rw [mdWithLength, Memory.read_writeBytes _ (Memory.wf_zeroFill hw (by omega)) (by rw [hf.length]; omega),
    Memory.read_zeroFill hw (by omega), hf.length]
  split_ifs <;> first | rfl | omega

/-- FINAL keeps the buffer in canonical form (41_md_common.md R163). -/
theorem wf_mdFinal_buf {e : MdRecord σ cw} (hw : e.buf.wf (2 ^ cw)) : (mdFinal sh e).buf.wf (2 ^ cw) := by
  rcases mdFinal_cases sh e with ⟨_, h⟩ | ⟨hc, h⟩ <;> rw [h]
  · exact wf_mdWithLength hf (wf_mdExtraBuf hw) _ (by omega)
  · exact wf_mdWithLength hf (wf_mdPadded hw) _ hc

/-- FINAL touches no index outside the block (41_md_common.md R163). -/
theorem read_mdFinal_buf_outside {e : MdRecord σ cw} (hw : e.buf.wf (2 ^ cw)) {a : Nat} (ha : 2 ^ cw ≤ a) :
    (mdFinal sh e).buf.read a = e.buf.read a := by
  have hl := hf.fits
  have hcur := e.cur.isLt
  rcases mdFinal_cases sh e with ⟨_, h⟩ | ⟨hc, h⟩ <;> rw [h]
  · show (mdWithLength sh cw (mdExtraBuf e) 0 e.cnt).read a = _
    rw [read_mdWithLength hf (wf_mdExtraBuf hw) _ (by omega), if_neg (by omega), if_neg (by omega), mdExtraBuf,
      Memory.read_zeroFill (wf_mdPadded hw) (by omega), if_neg (by omega), mdPadded, Memory.read_write hw,
      if_neg (by omega)]
  · show (mdWithLength sh cw (mdPadded e) (e.cur.toNat + 1) e.cnt).read a = _
    rw [read_mdWithLength hf (wf_mdPadded hw) _ hc, if_neg (by omega), if_neg (by omega), mdPadded,
      Memory.read_write hw, if_neg (by omega)]

end

/-! ### The digest lengths (00_scope.md R7) -/

@[simp] theorem length_toBe32 (x : Word32) : (toBe32 x).length = 4 := rfl
@[simp] theorem length_toLe32 (x : Word32) : (toLe32 x).length = 4 := rfl
@[simp] theorem length_toBe64 (x : Word64) : (toBe64 x).length = 8 := rfl
@[simp] theorem length_toLe64 (x : Word64) : (toLe64 x).length = 8 := rfl

@[simp] theorem length_md5Out (h : Words4) : (md5Out h).length = 16 := rfl

@[simp] theorem length_sha1Out (h : Words5) : (sha1Out h).length = 20 := rfl

theorem length_s256Out (v : BitVec 1) (h : Words8 32) : (s256Out v h).length = 4 * s256OutWords v := by
  unfold s256Out s256OutWords
  split <;> rfl

theorem length_s512Out (v : BitVec 1) (h : Words8 64) : (s512Out v h).length = 8 * s512OutWords v := by
  unfold s512Out s512OutWords
  split <;> rfl

/-- Every digest fits in `DOUT` (10_state.md R23). -/
theorem length_digestEngine_le (e : Engine) (s : State) : (digestEngine e s).length ≤ Config.doutBytes := by
  cases e with
  | s256 =>
    show (s256Out _ _).length ≤ 64
    rw [length_s256Out]; unfold s256OutWords; split <;> omega
  | s512 =>
    show (s512Out _ _).length ≤ 64
    rw [length_s512Out]; unfold s512OutWords; split <;> omega
  | crc8 => show 1 ≤ 64; omega
  | crc16 => show 2 ≤ 64; omega
  | crc32 => show 4 ≤ 64; omega
  | md5 => show 16 ≤ 64; omega
  | sha1 => show 20 ≤ 64; omega

/-! ### The hex string (46_facade_hex.md R300) -/

@[simp] theorem hexEnc_nil : hexEnc [] = [] := rfl

@[simp] theorem hexEnc_cons (b : Byte) (d : List Byte) : hexEnc (b :: d) =
    hexDigit (b.extractLsb' 4 4) :: hexDigit (b.extractLsb' 0 4) :: hexEnc d := rfl

end Sys2Proof.Machine
end

