-- ==== Sys2Proof/Laws/PerInstr.lean ====
section
/-! SUPPORT. Claims about every command as syntax, one lemma per constructor of `Instr`. -/

namespace Sys2Proof.Laws.TableRow

/-- The word of a well-formed command matches its row of the opcode map (30_encoding.md R96). -/
def Statement (i : Instr) : Prop :=
  i.wellFormed = true → encode i &&& (tableRow i).2 = (tableRow i).1

theorem newSha256 : Statement .newSha256 := by unfold Statement; decide

theorem newMd5 : Statement .newMd5 := by unfold Statement; decide

theorem newCrc32 : Statement .newCrc32 := by unfold Statement; decide

theorem newCrc8 : Statement .newCrc8 := by unfold Statement; decide

theorem newCrc16 : Statement .newCrc16 := by unfold Statement; decide

theorem newSha1 : Statement .newSha1 := by unfold Statement; decide

theorem newSha224 : Statement .newSha224 := by unfold Statement; decide

theorem newSha384 : Statement .newSha384 := by unfold Statement; decide

theorem newSha512 : Statement .newSha512 := by unfold Statement; decide

theorem newUnsupported9 : Statement .newUnsupported9 := by unfold Statement; decide

theorem newUnsupportedAB : ∀ sel : BitVec 4, Statement (.newUnsupportedAB sel) := by unfold Statement; decide

theorem newUnsupportedCF : ∀ sel : BitVec 4, Statement (.newUnsupportedCF sel) := by unfold Statement; decide

theorem byteImm : ∀ imm : Byte, Statement (.byteImm imm) := by
  intro imm _
  show (packWord 0x2 0x0 imm) &&& 0xFF00 = 0x2000
  revert imm
  decide +kernel

theorem finish : Statement .finish := by unfold Statement; decide

end Sys2Proof.Laws.TableRow
end

