-- ==== Sys2Proof/Laws/Port.lean ====
section
/-! SUPPORT. The command port and the step: all a step can do, and that a command neither reads nor writes the port. -/

namespace Sys2Proof.Machine

/-! ### Hardware reset -/

@[simp] theorem hardwareReset_pending (s : State) : (hardwareReset s).pending = s.pending := rfl

@[simp] theorem hardwareReset_responses (s : State) : (hardwareReset s).responses = [] := rfl

/-- Hardware reset forgets everything but the moves the host has yet to make (70_reset_and_hazards.md R350). -/
theorem hardwareReset_eq (s : State) : hardwareReset s = State.reset.setPending s.pending := rfl

/-! ### Taking a move -/

theorem takeMove_nil {s : State} (h : s.pending = []) : takeMove s = none := by simp [takeMove, h]

theorem takeMove_cons {s : State} {m : HostMove} {rest : List HostMove} (h : s.pending = m :: rest) :
    takeMove s = some (m, s.setPending rest) := by simp [takeMove, h]

@[simp] theorem issueFirst_pending (c : Word16) (s : State) : (issueFirst c s).pending = .command c :: s.pending := rfl

/-! ### One step -/

/-- All a step can do (00_scope.md R15, R16; 30_encoding.md R95): idle, reset, a command, or the refusal of a reserved
word. -/
theorem step_cases (s : State) :
    (s.pending = [] ∧ step s = .next s) ∨
    (∃ rest, s.pending = .hardwareReset :: rest ∧ step s = .next (hardwareReset (s.setPending rest))) ∨
    (∃ c i rest, s.pending = .command c :: rest ∧ decode c = .ok i ∧ step s = exec i (s.setPending rest)) ∨
    (∃ c why rest, s.pending = .command c :: rest ∧ decode c = .error why ∧
      step s = .refused (.reservedWord why)) := by
  cases h : s.pending with
  | nil => exact .inl ⟨rfl, by simp [step, takeMove_nil h, idle]⟩
  | cons m rest =>
    cases m with
    | hardwareReset => exact .inr (.inl ⟨rest, rfl, by simp [step, takeMove_cons h, runMove]⟩)
    | command c =>
      cases hd : decode c with
      | ok i => exact .inr (.inr (.inl ⟨c, i, rest, rfl, hd, by simp [step, takeMove_cons h, runMove, runWord, hd]⟩))
      | error why =>
        exact .inr (.inr (.inr ⟨c, why, rest, rfl, hd, by simp [step, takeMove_cons h, runMove, runWord, hd]⟩))

/-! ### A command and the port -/

theorem newCommand_setPending (sel : BitVec 4) (s : State) (p : List HostMove) :
    newCommand sel (s.setPending p) = (newCommand sel s).setPending p := by
  unfold newCommand
  cases engineOf sel with
  | none => rfl
  | some e => simp only [setVariant_eq]; cases e <;> rfl

theorem byteCommand_setPending (b : Byte) (s : State) (p : List HostMove) :
    byteCommand b (s.setPending p) = (byteCommand b s).setPending p := by
  unfold byteCommand
  rw [State.setPending_sel]
  cases engineOf s.sel with
  | none => rfl
  | some e => cases e <;> rfl

theorem digestEngine_setPending (e : Engine) (s : State) (p : List HostMove) :
    digestEngine e (s.setPending p) = digestEngine e s := by
  cases e <;> simp only [digestEngine, State.setPending_crc8, State.setPending_crc16, State.setPending_crc32,
    State.setPending_md5, State.setPending_sha1, State.setPending_s256, State.setPending_s512,
    State.setPending_s256Var, State.setPending_s512Var]

theorem finalEngine_setPending (e : Engine) (s : State) (p : List HostMove) :
    finalEngine e (s.setPending p) = (finalEngine e s).setPending p := by
  cases e <;> simp only [finalEngine, State.setPending_md5, State.setPending_sha1, State.setPending_s256,
    State.setPending_s512, State.setPending_s256Var, State.setPending_s512Var] <;> rfl

theorem resetEngine_setPending (e : Engine) (s : State) (p : List HostMove) :
    resetEngine e (s.setPending p) = (resetEngine e s).setPending p := by
  cases e <;> rfl

theorem storeDigest_setPending (d : List Byte) (s : State) (p : List HostMove) :
    storeDigest d (s.setPending p) = (storeDigest d s).setPending p := rfl

theorem finishCommand_setPending (s : State) (p : List HostMove) :
    finishCommand (s.setPending p) = (finishCommand s).setPending p := by
  unfold finishCommand
  rw [State.setPending_sel]
  cases engineOf s.sel with
  | none => rfl
  | some e =>
    simp only [digestEngine_setPending, finalEngine_setPending, storeDigest_setPending, resetEngine_setPending]
    rfl

/-- A command does the same whatever the host issues after it, and leaves it pending (00_scope.md R16). -/
theorem exec_setPending (i : Instr) (s : State) (p : List HostMove) :
    ∃ t, exec i s = .next t ∧ exec i (s.setPending p) = .next (t.setPending p) := by
  rcases exec_cases i s with ⟨sel, hi, hs⟩ | ⟨b, rfl, hs⟩ | ⟨rfl, hs⟩
  · refine ⟨_, hs, ?_⟩
    rcases exec_cases i (s.setPending p) with ⟨sel', hi', hs'⟩ | ⟨b, rfl, _⟩ | ⟨rfl, _⟩
    · rw [hi] at hi'
      cases hi'
      rw [hs', newCommand_setPending]
    · cases hi
    · cases hi
  · exact ⟨_, hs, by rw [← byteCommand_setPending]; exact congrArg _ rfl⟩
  · exact ⟨_, hs, by rw [← finishCommand_setPending]; exact congrArg _ rfl⟩

end Sys2Proof.Machine
end

