-- ==== Sys2Proof/Laws/Stream.lean ====
section
/-! SUPPORT. Streaming and the whole message: what the blocks of FINAL are, byte by byte, and the engine that has absorbed
a message (41_md_common.md R162, R163, R165). -/

namespace Sys2Proof.Machine

variable {σ : Type} {cw : Nat}

/-- No extra block: the zeros fill this one (41_md_common.md R163). -/
theorem padZeros_of_le {bs lf n : Nat} (h : n + 1 ≤ bs - lf) : padZeros bs lf n = bs - lf - 1 - n := by
  unfold padZeros
  rw [Int.emod_eq_of_lt] <;> omega
/-- An extra block: the zeros fill this one and the next up to the length field (41_md_common.md R163). -/
theorem padZeros_of_lt {bs lf n : Nat} (h1 : lf < bs) (hn : n < bs) (h : bs - lf < n + 1) :
    padZeros bs lf n = 2 * bs - lf - 1 - n := by
  unfold padZeros
  rw [← Int.add_emod_right, Int.emod_eq_of_lt] <;> omega
/-- The padding depends on the message length modulo the block size only (41_md_common.md R165). -/
theorem padZeros_mod {bs lf n : Nat} : padZeros bs lf n = padZeros bs lf (n % bs) := by
  unfold padZeros
  congr 1
  push_cast
  conv_lhs => rw [Int.sub_emod]
  conv_rhs => rw [Int.sub_emod]
  rw [Int.emod_emod_of_dvd _ (dvd_refl _)]

theorem length_finalBytes {sh : MdShell σ} (hf : sh.Fits cw) (e : MdRecord σ cw) :
    (finalBytes sh e).length = e.cur.toNat + 1 + padZeros (2 ^ cw) sh.lf e.cur.toNat + sh.lf := by
  simp [finalBytes, heldBytes, hf.length]; omega

/-- The bytes FINAL compresses, one by one. -/
theorem getD_finalBytes (sh : MdShell σ) (e : MdRecord σ cw) (i : Nat) :
    (finalBytes sh e).getD i 0 =
      if i < e.cur.toNat then e.buf.read i
      else if i = e.cur.toNat then 0x80
      else if i < e.cur.toNat + 1 + padZeros (2 ^ cw) sh.lf e.cur.toNat then 0
      else (sh.lenField e.cnt).getD (i - (e.cur.toNat + 1 + padZeros (2 ^ cw) sh.lf e.cur.toNat)) 0 := by
  have hh : (heldBytes e).length = e.cur.toNat := by simp [heldBytes]
  unfold finalBytes
  split_ifs with h1 h2 h3
  · rw [List.getD_append _ _ _ _ (by omega)]; simp [heldBytes, h1]
  · rw [List.getD_append_right _ _ _ _ (by omega)]; simp [h2, hh]
  · rw [List.getD_append_right _ _ _ _ (by omega), hh]
    obtain ⟨k, hk⟩ : ∃ k, i - e.cur.toNat = k+1 := ⟨i - e.cur.toNat - 1, by omega⟩
    rw [hk, List.getD_cons_succ, List.getD_append _ _ _ _ (by simp; omega)]
    simp [List.getD]
  · rw [List.getD_append_right _ _ _ _ (by omega), hh]
    obtain ⟨k, hk⟩ : ∃ k, i - e.cur.toNat = k+1 := ⟨i - e.cur.toNat - 1, by omega⟩
    rw [hk, List.getD_cons_succ, List.getD_append_right _ _ _ _ (by simp; omega)]
    congr 1; simp; omega

theorem bytes_ext {l m : List Byte} (h : l.length = m.length) (h2 : ∀ i, i < l.length → l.getD i 0 = m.getD i 0) :
    l = m := by
  apply List.ext_getElem h
  intro i h3 h4
  have := h2 i h3
  simpa [List.getD, h3, h4] using this
theorem getD_mdBlock (b : Memory) (i : Nat) (h : i < 2 ^ cw) : (mdBlock cw b).getD i 0 = b.read i := by
  simp [mdBlock, List.getD, h]
theorem getD_take_drop (l : List Byte) (k n i : Nat) (h : i < n) : ((l.drop k).take n).getD i 0 = l.getD (k + i) 0 := by
  simp [List.getD, h]

/-- One block. -/
theorem blocksOf_one {n : Nat} {l : List Byte} (hn : 0 < n) (h : l.length = n) : blocksOf n l = [l] := by
  have h2 : l.take n = l := List.take_of_length_le (by omega)
  simp [blocksOf, h, Nat.div_self hn, h2]
/-- Two blocks. -/
theorem blocksOf_two {n : Nat} {l : List Byte} (hn : 0 < n) (h : l.length = 2 * n) :
    blocksOf n l = [l.take n, (l.drop n).take n] := by
  simp [blocksOf, h, Nat.mul_div_cancel _ hn, List.range_succ]

/-- The digest of FINAL, computed in the buffer, is the one computed from the bytes (41_md_common.md R163). -/
theorem finalDigest_eq_mdDigest {sh : MdShell σ} (hf : sh.Fits cw) (e : MdRecord σ cw) (hw : e.buf.wf (2 ^ cw)) :
    finalDigest sh e = mdDigest sh e := by
  have hl := length_finalBytes hf e
  have hc := e.cur.isLt
  have hlf := hf.fits
  have hp := Nat.two_pow_pos cw
  unfold finalDigest mdDigest
  congr 1
  rcases mdFinal_cases sh e with ⟨hx, h⟩ | ⟨hx, h⟩ <;> rw [h]
  · have hz := padZeros_of_lt hlf hc hx
    have h2 : (finalBytes sh e).length = 2 * 2 ^ cw := by omega
    rw [blocksOf_two hp h2]
    show sh.compress (sh.compress _ _) _ = _
    congr 1
    · congr 1
      apply bytes_ext
      · simp [mdBlock, h2]; try omega
      · intro i hi
        simp [h2] at hi
        rw [getD_mdBlock _ _ hi.1, read_mdExtraBuf hw hi.1]
        have := getD_take_drop (finalBytes sh e) 0 (2 ^ cw) i hi.1
        simp only [List.drop_zero, Nat.zero_add] at this
        rw [this, getD_finalBytes]
        split_ifs <;> first | rfl | omega
    · apply bytes_ext
      · simp [mdBlock, h2]; try omega
      · intro i hi
        simp [h2] at hi
        rw [getD_mdBlock _ _ hi.1, mdLastAfterExtra, read_mdWithLength hf (wf_mdExtraBuf hw) _ (by omega),
         getD_take_drop _ _ _ _ hi.1, getD_finalBytes]
        split_ifs <;> first | rfl | omega | (congr 1; omega)
  · have hz := padZeros_of_le hx
    have h2 : (finalBytes sh e).length = 2 ^ cw := by omega
    rw [blocksOf_one hp h2]
    show sh.compress _ _ = _
    congr 1
    apply bytes_ext
    · simp [mdBlock, h2]
    · intro i hi
      simp [h2] at hi
      rw [getD_mdBlock _ _ hi, mdLastOnly, read_mdWithLength hf (wf_mdPadded hw) _ (by omega),
         getD_finalBytes, mdPadded, Memory.read_write hw]
      split_ifs <;> first | rfl | omega | (congr 1; omega)

/-- The buffer FINAL leaves is the last block of the bytes (41_md_common.md R163). -/
theorem read_mdFinal_buf {sh : MdShell σ} (hf : sh.Fits cw) (e : MdRecord σ cw) (hw : e.buf.wf (2 ^ cw)) {a : Nat}
    (ha : a < 2 ^ cw) :
    (mdFinal sh e).buf.read a = (finalBytes sh e).getD ((finalBytes sh e).length - 2 ^ cw + a) 0 := by
  have hl := length_finalBytes hf e
  have hc := e.cur.isLt
  have hlf := hf.fits
  rcases mdFinal_cases sh e with ⟨hx, h⟩ | ⟨hx, h⟩ <;> rw [h]
  · have hz := padZeros_of_lt hlf hc hx
    rw [getD_finalBytes]
    simp only []
    rw [mdLastAfterExtra, read_mdWithLength hf (wf_mdExtraBuf hw) _ (by omega)]
    split_ifs <;> first | rfl | omega | (congr 1; omega)
  · have hz := padZeros_of_le hx
    rw [getD_finalBytes]
    simp only []
    rw [mdLastOnly, read_mdWithLength hf (wf_mdPadded hw) _ (by omega), mdPadded, Memory.read_write hw]
    have : (finalBytes sh e).length - 2 ^ cw + a = a := by omega
    rw [this]
    split_ifs <;> first | rfl | omega | (congr 1; omega)

/-- RESET after FINAL leaves a finished record. -/
theorem finished_mdReset_mdFinal {sh : MdShell σ} (hf : sh.Fits cw) (e : MdRecord σ cw) (hw : e.buf.wf (2 ^ cw)) :
    Finished sh sh.iv e (mdReset sh (mdFinal sh e)) :=
  ⟨rfl, rfl, rfl, fun _ ha => read_mdFinal_buf hf e hw ha, fun _ ha => read_mdFinal_buf_outside hf hw ha⟩

/-- Writing a digest to `DOUT` changes its first bytes only. -/
theorem digestStored_writeBytes (d : List Byte) (m : Memory) (hm : m.wf 64) (h : d.length ≤ 64) :
    DigestStored d m (m.writeBytes 0 d) := by
  intro a; rw [Memory.read_writeBytes _ hm (by omega)]; simp


/-- Whole blocks in front are blocks of their own. -/
theorem blocksOf_append {n : Nat} (hn : 0 < n) (l b : List Byte) (h : n ∣ l.length) :
    blocksOf n (l ++ b) = blocksOf n l ++ blocksOf n b := by
  obtain ⟨q, hq⟩ := h
  unfold blocksOf
  rw [List.length_append, hq, Nat.mul_add_div hn, Nat.mul_div_cancel_left _ hn, List.range_add,
    List.map_append, List.map_map]
  congr 1
  · apply List.map_congr_left
    intro k hk
    rw [List.mem_range] at hk
    have : (k+1) * n ≤ n * q := by rw [Nat.mul_comm]; exact Nat.mul_le_mul_left _ hk
    have h2 : k * n + n ≤ l.length := by rw [hq]; linarith [Nat.succ_mul k n]
    rw [List.drop_append_of_le_length (by omega), List.take_append_of_le_length (by simp; omega)]
  · apply List.map_congr_left
    intro k hk
    simp only [Function.comp]
    have : (q + k) * n = l.length + k * n := by rw [hq]; ring
    rw [this, ← List.drop_drop, List.drop_left]

/-- The record of an engine that has absorbed exactly the message `m` since its reset: its full blocks compressed, the rest
held (41_md_common.md R162). -/
structure Streamed (sh : MdShell σ) (m : List Byte) (e : MdRecord σ cw) : Prop where
  cnt : e.cnt = BitVec.ofNat 64 (8 * m.length)
  cur : e.cur.toNat = m.length % 2 ^ cw
  held : heldBytes e = m.drop (m.length / 2 ^ cw * 2 ^ cw)
  h : e.h = (blocksOf (2 ^ cw) (m.take (m.length / 2 ^ cw * 2 ^ cw))).foldl sh.compress sh.iv
  wf : e.buf.wf (2 ^ cw)

theorem Streamed.reset (sh : MdShell σ) {e : MdRecord σ cw} (hw : e.buf.wf (2 ^ cw)) : Streamed sh [] (mdReset sh e) :=
  ⟨rfl, by simp, by simp [heldBytes], by simp [blocksOf], hw⟩

theorem Streamed.absorb (hcw : 0 < cw) {sh : MdShell σ} {m : List Byte} {e : MdRecord σ cw} (h : Streamed sh m e)
    (b : Byte) :
    Streamed sh (m ++ [b]) (mdAbsorb sh e b) := by
  obtain ⟨h1, h2, h3, h4, h5⟩ := h
  have hp := Nat.two_pow_pos cw
  have hlt := e.cur.isLt
  have hdm := Nat.div_add_mod m.length (2 ^ cw)
  rw [Nat.mul_comm] at hdm
  have hone : 1 < 2 ^ cw := Nat.one_lt_two_pow (by omega)
  have hlen : (m ++ [b]).length = m.length + 1 := by simp
  refine ⟨?_, ?_, ?_, ?_, by rw [mdAbsorb_buf]; exact wf_mdStore h5 b⟩
  · rw [mdAbsorb_cnt, h1, hlen]; apply BitVec.eq_of_toNat_eq; simp [BitVec.toNat_add]; congr 1
  · rw [mdAbsorb_cur, h2, hlen]; simp
  · rcases mdAbsorb_cases sh e b with ⟨hc, hA⟩ | ⟨hc, hA⟩
    · have : (m.length + 1) = (m.length / 2 ^ cw + 1) * 2 ^ cw := by rw [Nat.add_mul]; omega
      rw [hlen, this, Nat.mul_div_cancel _ hp, ← this, hA]
      simp [heldBytes]
    · have hdiv : (m.length + 1) / 2 ^ cw = m.length / 2 ^ cw := by
        apply Nat.div_eq_of_lt_le <;> [omega; (rw [Nat.add_mul]; omega)]
      have hcur := mdAbsorb_cur sh e b
      rw [Nat.mod_eq_of_lt (by omega)] at hcur
      rw [hlen, hdiv, List.drop_append_of_le_length (by omega), ← h3]
      unfold heldBytes
      rw [hcur, List.range_succ, List.map_append, mdAbsorb_buf]
      congr 1
      · apply List.map_congr_left
        intro a ha
        rw [List.mem_range] at ha
        rw [read_mdStore h5, if_neg (by omega)]
      · simp [read_mdStore h5]
  · rcases mdAbsorb_cases sh e b with ⟨hc, hA⟩ | ⟨hc, hA⟩
    · have : (m.length + 1) = (m.length / 2 ^ cw + 1) * 2 ^ cw := by rw [Nat.add_mul]; omega
      rw [hlen, this, Nat.mul_div_cancel _ hp, ← this, hA]
      show sh.compress e.h _ = _
      have hsplit : (m ++ [b]).take (m.length + 1) =
          m.take (m.length / 2 ^ cw * 2 ^ cw) ++ (m.drop (m.length / 2 ^ cw * 2 ^ cw) ++ [b]) := by
        rw [← List.append_assoc, List.take_append_drop, List.take_of_length_le (by simp)]
      rw [hsplit, blocksOf_append hp _ _ ⟨m.length / 2 ^ cw, by rw [List.length_take, Nat.mul_comm (2 ^ cw)]; omega⟩,
        List.foldl_append, ← h4,
        blocksOf_one hp (by simp; omega)]
      show _ = sh.compress _ _
      congr 1
      rw [← h3]
      unfold mdBlock Memory.readBytes heldBytes
      rw [← List.range_eq_range', show 2 ^ cw = e.cur.toNat + 1 by omega, List.range_succ, List.map_append]
      congr 1
      · apply List.map_congr_left
        intro a ha
        rw [List.mem_range] at ha
        rw [read_mdStore h5, if_neg (by omega)]
      · simp [read_mdStore h5]
    · have hdiv : (m.length + 1) / 2 ^ cw = m.length / 2 ^ cw := by
        apply Nat.div_eq_of_lt_le <;> [omega; (rw [Nat.add_mul]; omega)]
      rw [hA, hlen, hdiv, List.take_append_of_le_length (by omega)]
      exact h4

/-- The incremental digest is the digest of the whole message (41_md_common.md R165). -/
theorem Streamed.digest {sh : MdShell σ} (hf : sh.Fits cw) {m : List Byte} {e : MdRecord σ cw} (h : Streamed sh m e) :
    mdDigest sh e = wholeMd (2 ^ cw) sh m := by
  rw [← finalDigest_eq_mdDigest hf e h.wf]
  obtain ⟨h1, h2, h3, h4, h5⟩ := h
  have hp := Nat.two_pow_pos cw
  have hdm := Nat.div_add_mod m.length (2 ^ cw)
  rw [Nat.mul_comm] at hdm
  unfold finalDigest wholeMd padMessage
  congr 1
  rw [h4, ← List.foldl_append,
    ← blocksOf_append hp _ _ ⟨m.length / 2 ^ cw, by rw [List.length_take, Nat.mul_comm (2 ^ cw)]; omega⟩]
  congr 2
  unfold finalBytes padSuffix
  rw [h3, ← List.append_assoc, List.take_append_drop, h1, h2, ← padZeros_mod]

end Sys2Proof.Machine
end

