-- ==== Sys2Proof/Laws/Tables.lean ====
section
/-! SUPPORT. The tables of constants, word by word. -/

namespace Sys2Proof.Machine

@[simp] theorem tableWords_nil (w n : Nat) : tableWords w n [] = [] := rfl

@[simp] theorem tableWords_cons (w n row : Nat) (rows : List Nat) : tableWords w n (row :: rows) =
    ((List.range n).map fun j => BitVec.ofNat w (row >>> (w * (n - 1 - j)))) ++ tableWords w n rows := rfl

/-- A table of rows of `n` words has `n` words a row. -/
@[simp] theorem length_tableWords (w n : Nat) (rows : List Nat) :
    (tableWords w n rows).length = rows.length * n := by
  induction rows with
  | nil => simp
  | cons row rows ih => simp [ih, Nat.add_mul, Nat.add_comm]

@[simp] theorem length_k256 : k256.length = 64 := by simp [k256]

@[simp] theorem length_tMd5 : tMd5.length = 64 := by simp [tMd5]

@[simp] theorem length_k512 : k512.length = 80 := by simp [k512]

end Sys2Proof.Machine
end

