-- ==== Sys2Proof/Tests/Slice0.lean ====
section
/-! SUPPORT. Tests: decoding against words written out bit by bit, the smoke test of WellFormed, one or two steps per
command against values of spec/, and a witness for the hypotheses of every statement that has some. -/

namespace Sys2Proof.Tests

open Sys2Proof.Machine

/-! ### Decoding: `op` 4 bits, `sel` 4 bits, `imm` 8 bits, written out from 30_encoding.md R90 to R93 -/

theorem test_decode_newSha256 : decode 0b0001_0000_00000000 = .ok .newSha256 := by decide
theorem test_decode_newMd5 : decode 0b0001_0001_00000000 = .ok .newMd5 := by decide
theorem test_decode_newCrc32 : decode 0b0001_0010_00000000 = .ok .newCrc32 := by decide
theorem test_decode_newCrc8 : decode 0b0001_0011_00000000 = .ok .newCrc8 := by decide
theorem test_decode_newCrc16 : decode 0b0001_0100_00000000 = .ok .newCrc16 := by decide
theorem test_decode_newSha1 : decode 0b0001_0101_00000000 = .ok .newSha1 := by decide
theorem test_decode_newSha224 : decode 0b0001_0110_00000000 = .ok .newSha224 := by decide
theorem test_decode_newSha384 : decode 0b0001_0111_00000000 = .ok .newSha384 := by decide
theorem test_decode_newSha512 : decode 0b0001_1000_00000000 = .ok .newSha512 := by decide
theorem test_decode_newUnsupported9 : decode 0b0001_1001_00000000 = .ok .newUnsupported9 := by decide
theorem test_decode_newUnsupportedAB : decode 0b0001_1011_00000000 = .ok (.newUnsupportedAB 0xB) := by decide
theorem test_decode_newUnsupportedCF : decode 0b0001_1100_00000000 = .ok (.newUnsupportedCF 0xC) := by decide
theorem test_decode_byteImm : decode 0b0010_0000_10000001 = .ok (.byteImm 0x81) := by decide
theorem test_decode_finish : decode 0b0011_0000_00000000 = .ok .finish := by decide

/-- The reserved words, one of each kind (30_encoding.md R95; 95_test_vectors.md section 2). -/
theorem test_decode_reserved :
    decode 0x0000 = .error (.reservedOp 0x0) ∧ decode 0x4000 = .error (.reservedOp 0x4) ∧
    decode 0xFFFF = .error (.reservedOp 0xF) ∧ decode 0x1001 = .error (.newImmNonzero 0x01) ∧
    decode 0x2161 = .error (.byteSelNonzero 0x1) ∧ decode 0x3001 = .error (.finishFieldNonzero 0x0 0x01) ∧
    decode 0x3100 = .error (.finishFieldNonzero 0x1 0x00) := by decide

theorem test_decodeTableWord :
    decodeTableWord 16 0x1F00 = some (.newUnsupportedCF 0xF) ∧ decodeTableWord 16 0x20FF = some (.byteImm 0xFF) ∧
    decodeTableWord 16 0x3001 = none ∧ decodeTableWord 8 0x3000 = none := by decide

/-! ### WellFormed refuses the ill-formed -/

theorem test_wellFormed_AB_low : (Instr.newUnsupportedAB 0x9).wellFormed = false := by decide
theorem test_wellFormed_AB_high : (Instr.newUnsupportedAB 0xC).wellFormed = false := by decide
theorem test_wellFormed_CF_low : (Instr.newUnsupportedCF 0xB).wellFormed = false := by decide

/-! ### The line syntax (30_encoding.md R98 to R100) -/

theorem test_assemble : assemble [
    ['N', 'E', 'W', ' ', 'M', 'D', '5', ' ', ';', 'x'],
    ['U', 'P', 'D', 'A', 'T', 'E', ' ', '0', 'x', '6', '1', ' ', quoteMark, 'b', quoteMark],
    [],
    ['F', 'I', 'N', 'I', 'S', 'H']] = some [.newMd5, .byteImm 0x61, .byteImm 0x62, .finish] := by decide

theorem test_assemble_raw_selector :
    assembleLine ['N', 'E', 'W', ' ', '#', '1', '2'] = some [.newUnsupportedCF 0xC] ∧
    assembleLine ['N', 'E', 'W', ' ', '#', '1', '6'] = none ∧
    assembleLine ['B', 'Y', 'T', 'E', ' ', '0', 'x', '6'] = none := by decide

/-! ### One step on a small state -/

/-- The state after the host issues one command word. -/
def after (s : State) (w : Nat) : Option State :=
  match step (s.withFetchWord 16 w) with
  | .next t => some t
  | .fault _ => none
  | .refused _ => none

/-- The reset state with another selector. -/
def withSel (sel : BitVec 4) : State := State.reset.setSel sel

/-- The ASCII bytes of "abc" (95_test_vectors.md section 1.1). -/
def abc : List Byte := [0x61, 0x62, 0x63]

/-- A record that holds "abc". -/
def holding {σ : Type} {cw : Nat} (e : MdRecord σ cw) : MdRecord σ cw :=
  { e with cnt := 24, cur := 3, buf := [(0, 0x61), (1, 0x62), (2, 0x63)] }

/-- A record with one free byte left in a 64-byte block. -/
def oneLeft {σ : Type} (e : MdRecord σ 6) : MdRecord σ 6 := { e with cnt := 504, cur := 63, buf := [] }

/-- A record with one free byte left in a 128-byte block. -/
def oneLeft128 {σ : Type} (e : MdRecord σ 7) : MdRecord σ 7 := { e with cnt := 1016, cur := 127, buf := [] }

/-! NEW: 46_facade_hex.md R292, with the reset values of the engine files. -/

theorem test_newSha256 :
    (after ((withSel 0x6).setS256Var 1) 0x1000).map (fun t => (t.sel, t.s256Var, t.s256.h.h0, t.err)) =
      some (0x0, 0, 0x6a09e667, 0) := by decide

theorem test_newMd5 :
    (after (State.reset.setMd5 (holding State.reset.md5)) 0x1100).map
      (fun t => (t.sel, t.md5.h.h3, t.md5.cnt, t.md5.cur)) = some (0x1, 0x10325476, 0, 0) := by decide

theorem test_newCrc32 :
    (after (State.reset.setCrc32 0x340bc6d9) 0x1200).map (fun t => (t.sel, t.crc32, t.responses)) =
      some (0x2, 0xFFFFFFFF, [⟨.ok, []⟩]) := by decide

theorem test_newCrc8 :
    (after ((State.reset.setCrc8 0x07).setErr 1) 0x1300).map (fun t => (t.sel, t.crc8, t.err)) =
      some (0x3, 0x00, 0) := by decide

theorem test_newCrc16 :
    (after (State.reset.setCrc16 0x31C3) 0x1400).map (fun t => (t.sel, t.crc16)) = some (0x4, 0x0000) := by decide

theorem test_newSha1 :
    (after (State.reset.setSha1 (holding State.reset.sha1)) 0x1500).map
      (fun t => (t.sel, t.sha1.h.h4, t.sha1.cur)) = some (0x5, 0xc3d2e1f0, 0) := by decide

theorem test_newSha224 :
    (after State.reset 0x1600).map (fun t => (t.sel, t.s256Var, t.s256.h.h0, t.s512Var)) =
      some (0x6, 1, 0xc1059ed8, 0) := by decide

/-- 95_test_vectors.md program P4. -/
theorem test_newSha384 :
    (after State.reset 0x1700).map (fun t => (t.sel, t.s512Var, t.s512.h.h0, t.s256Var)) =
      some (0x7, 1, 0xcbbb9d5dc1059ed8, 0) := by decide

theorem test_newSha512 :
    (after ((withSel 0x7).setS512Var 1) 0x1800).map (fun t => (t.sel, t.s512Var, t.s512.h.h7)) =
      some (0x8, 0, 0x5be0cd19137e2179) := by decide

/-- 95_test_vectors.md program P3: the failing NEW latches the selector and touches no engine. -/
theorem test_newUnsupported9 :
    (after (withSel 0x2) 0x1900).map (fun t => (t.sel, t.err, t.crc32, t.responses)) =
      some (0x9, 1, 0xFFFFFFFF, [⟨.unsupportedAlgorithm, []⟩]) := by decide

theorem test_newUnsupportedAB :
    (after (withSel 0x2) 0x1B00).map (fun t => (t.sel, t.err)) = some (0xB, 1) := by decide

theorem test_newUnsupportedCF :
    (after (withSel 0x2) 0x1C00).map (fun t => (t.sel, t.err)) = some (0xC, 1) := by decide

/-! BYTE: 46_facade_hex.md R293. -/

/-- The examples of 40_crc.md R141 and of 95_test_vectors.md program P3. -/
theorem test_byteImm_crc :
    (after (withSel 0x2) 0x2031).map (·.crc32) = some 0x7C231048 ∧
    (after (withSel 0x3) 0x2001).map (·.crc8) = some 0x07 := by decide +kernel

/-- 95_test_vectors.md program P6: the 128th byte 80 of a SHA-512 message compresses the block. -/
theorem test_byteImm_block :
    (after ((withSel 0x8).setS512
        { State.reset.s512 with cnt := 0x3f8, cur := 127, buf := (List.range 127).map fun i => (i, 0x80) })
      0x2080).map (fun t => (t.s512.cur, t.s512.cnt, t.s512.h.h0, t.s512.h.h7)) =
      some (0, 0x400, 0x0653970fa3f9e8c7, 0x5bf25ab277c2ffe6) := by decide +kernel

/-! FINISH: 46_facade_hex.md R294. -/

/-- 95_test_vectors.md program P3: the CRC-32 of "123456789", the register reset, `DOUT` and `DLEN`. -/
theorem test_finish_crc32 :
    (after ((withSel 0x2).setCrc32 0x340bc6d9) 0x3000).map (fun t => (t.crc32, hostView t, t.responses)) =
      some (0xFFFFFFFF, ⟨0, 4, [0xcb, 0xf4, 0x39, 0x26]⟩,
        [⟨.ok, [0x63, 0x62, 0x66, 0x34, 0x33, 0x39, 0x32, 0x36]⟩]) := by decide +kernel

/-- 95_test_vectors.md program P5: SHA-224 of "abc"; the variant is kept. -/
theorem test_finish_sha224 :
    (after (((withSel 0x6).setS256Var 1).setS256 { holding State.reset.s256 with h := iv224 }) 0x3000).map
      (fun t => (t.s256Var, t.s256.h.h0, t.dlen, (hostView t).dout.take 4, (hostView t).dout.drop 24)) =
      some (1, 0xc1059ed8, 28, [0x23, 0x09, 0x7d, 0x22], [0xe3, 0x6c, 0x9d, 0xa7]) := by decide +kernel

/-! The port. -/

theorem test_reserved_word_is_refused :
    step (State.reset.withFetchWord 16 0x1001) = .refused (.reservedWord (.newImmNonzero 0x01)) := by rfl

theorem test_hardware_reset :
    step ((withSel 0x2).setPending [.hardwareReset]) = .next State.reset := by rfl

/-! ### Witnesses: a concrete state and operands that meet the hypotheses of each statement -/

/-- Reset, `NEW SHA224`, `BYTE 61`: a message in progress. -/
def inProgress : State := byteCommand 0x61 (newCommand 0x6 State.reset)

/-- `inProgress` but for what no rule reads: another engine's record, a byte above the cursor, one above `DLEN`. -/
def inProgressTwin : State :=
  ((inProgress.setMd5 (holding State.reset.md5)).setS256
    { inProgress.s256 with buf := inProgress.s256.buf ++ [(9, 0xEE)] }).setDout [(5, 0x77)]

theorem witness_wellFormed :
    (Instr.newUnsupportedAB 0xA).wellFormed = true ∧ (Instr.newUnsupportedAB 0xB).wellFormed = true ∧
    (Instr.newUnsupportedCF 0xC).wellFormed = true ∧ (Instr.newUnsupportedCF 0xF).wellFormed = true ∧
    (Instr.byteImm 0xFF).wellFormed = true := by decide

/-- For DecodedWordIsTheEncoding. -/
theorem witness_decodes : decode 0x1F00 = .ok (.newUnsupportedCF 0xF) := by decide

/-- For DecodeFollowsTheOpcodeMap. -/
theorem witness_row : decode 0x20FF = .ok (.byteImm 0xFF) ∧ (Instr.byteImm 0x00).wellFormed = true ∧
    0x20FF &&& (tableRow (.byteImm 0x00)).2 = (tableRow (.byteImm 0x00)).1 := by decide

/-- For StepRunsTheDecodedCommand and ReservedWordsAreRefused: a word that decodes and one that does not. -/
theorem witness_command_pending :
    (State.reset.setPending [.command 0x2061, .hardwareReset]).pending = .command 0x2061 :: [.hardwareReset] ∧
    decode 0x2061 = .ok (.byteImm 0x61) ∧
    (State.reset.setPending [.command 0x2161]).pending = .command 0x2161 :: [] ∧
    decode 0x2161 = .error (.byteSelNonzero 0x1) := by decide

/-- For NoMoveMeansNoChange. -/
theorem witness_nothing_pending : inProgress.pending = [] := by decide

/-- For HardwareResetMoveResets. -/
theorem witness_reset_pending :
    (inProgress.setPending [.hardwareReset, .command 0x3000]).pending = .hardwareReset :: [.command 0x3000] := by decide

/-- For NewWithUnsupportedSelectorRaises: the ends of both ranges. -/
theorem witness_unsupported_selectors :
    ((0xA : BitVec 4) = 0xA ∨ (0xA : BitVec 4) = 0xB) ∧ ((0xB : BitVec 4) = 0xA ∨ (0xB : BitVec 4) = 0xB) ∧
    0xC ≤ (0xC : BitVec 4).toNat ∧ 0xC ≤ (0xF : BitVec 4).toNat := by decide

/-- For MessageCommandsRaiseWithoutEngine: the least selector without an engine, and the one after reset. -/
theorem witness_no_engine : 9 ≤ (withSel 0x9).sel.toNat ∧ 9 ≤ State.reset.sel.toNat := by decide

/-- For ByteOnACrcEngine and FinishOnACrcEngine. -/
theorem witness_crc_selected :
    (withSel 0x3).sel = 3 ∧ (withSel 0x4).sel = 4 ∧ (withSel 0x2).sel = 2 ∧ (withSel 0x2).dout.wf 64 ∧
    ((withSel 0x2).setDout [(0, 0xcb), (63, 0x01)]).dout.wf 64 := by decide

/-- For ByteOnADigestEngine and FinishOnADigestEngine, MD5: an empty block, and one with one free byte. -/
theorem witness_md5 :
    (withSel 0x1).sel = 1 ∧ (withSel 0x1).dout.wf 64 ∧ (withSel 0x1).md5.buf.wf 64 ∧ (withSel 0x1).md5.cur.toNat ≠ 63 ∧
    ((withSel 0x1).setMd5 (oneLeft State.reset.md5)).sel = 1 ∧
    ((withSel 0x1).setMd5 (oneLeft State.reset.md5)).md5.buf.wf 64 ∧
    ((withSel 0x1).setMd5 (oneLeft State.reset.md5)).md5.cur.toNat = 63 := by decide

/-- For ByteOnADigestEngine and FinishOnADigestEngine, SHA-1: three bytes held, and one byte free. -/
theorem witness_sha1 :
    ((withSel 0x5).setSha1 (holding State.reset.sha1)).sel = 5 ∧ (withSel 0x5).dout.wf 64 ∧
    ((withSel 0x5).setSha1 (holding State.reset.sha1)).sha1.buf.wf 64 ∧
    ((withSel 0x5).setSha1 (oneLeft State.reset.sha1)).sha1.buf.wf 64 ∧
    ((withSel 0x5).setSha1 (oneLeft State.reset.sha1)).sha1.cur.toNat = 63 := by decide

/-- For ByteOnADigestEngine and FinishOnADigestEngine, SHA-256 and SHA-224. -/
theorem witness_s256 :
    (withSel 0x0).sel = 0 ∧ (withSel 0x0).s256Var = 0 ∧ (withSel 0x0).s256.buf.wf 64 ∧ (withSel 0x0).dout.wf 64 ∧
    inProgress.sel = 6 ∧ inProgress.s256Var = 1 ∧ inProgress.s256.buf.wf 64 ∧ inProgress.dout.wf 64 ∧
    ((withSel 0x0).setS256 (oneLeft State.reset.s256)).s256.buf.wf 64 ∧
    ((withSel 0x0).setS256 (oneLeft State.reset.s256)).s256.cur.toNat = 63 := by decide

/-- For ByteOnADigestEngine and FinishOnADigestEngine, SHA-512 and SHA-384. -/
theorem witness_s512 :
    (withSel 0x8).sel = 8 ∧ (withSel 0x8).s512Var = 0 ∧ (withSel 0x8).s512.buf.wf 128 ∧ (withSel 0x8).dout.wf 64 ∧
    ((withSel 0x7).setS512Var 1).sel = 7 ∧ ((withSel 0x7).setS512Var 1).s512Var = 1 ∧
    ((withSel 0x7).setS512Var 1).s512.buf.wf 128 ∧
    ((withSel 0x8).setS512 (oneLeft128 State.reset.s512)).s512.buf.wf 128 ∧
    ((withSel 0x8).setS512 (oneLeft128 State.reset.s512)).s512.cur.toNat = 127 := by decide

/-- For Crc32TableIsTheListedTable and ConstantsAreFractionsOfRoots: the last entry, the first and last rounds of each
phase. -/
theorem witness_index_ranges : 255 < 256 ∧ ∀ t ∈ [0, 19, 20, 39, 40, 59, 60, 79], t < 80 := by decide

/-- For OneByteOrderPerEngine: a block of each size. -/
theorem witness_blocks :
    (padMessage 64 sha1Shell abc).length = 64 ∧ (padMessage 128 (s512Shell 0) abc).length = 128 := by decide +kernel

/-- For Sha2AndSha1FunctionIdentities: the ends of the four phases, and the last bit. -/
theorem witness_phases :
    (∀ t ∈ [0, 19], t < 20) ∧ (∀ t ∈ [20, 39], 20 ≤ t ∧ t < 40) ∧ (∀ t ∈ [40, 59], 40 ≤ t ∧ t < 60) ∧
    (∀ t ∈ [60, 79], 60 ≤ t ∧ t < 80) ∧ 31 < 32 := by decide

theorem inv_inProgress : inProgress.Inv where
  table := rfl
  doutWf := by decide
  dlenLe := by decide
  md5 := ⟨by decide, by decide, by decide⟩
  sha1 := ⟨by decide, by decide, by decide⟩
  s256 := ⟨by decide, by decide, by decide⟩
  s512 := ⟨by decide, by decide, by decide⟩
  var256 := by decide
  var512 := by decide
  lastStatus := by
    intro r h
    cases h
    rfl

theorem inv_inProgressTwin : inProgressTwin.Inv where
  table := rfl
  doutWf := by decide
  dlenLe := by decide
  md5 := ⟨by decide, by decide, by decide⟩
  sha1 := ⟨by decide, by decide, by decide⟩
  s256 := ⟨by decide, by decide, by decide⟩
  s512 := ⟨by decide, by decide, by decide⟩
  var256 := by decide
  var512 := by decide
  lastStatus := by
    intro r h
    cases h
    rfl

/-- For FinishPayloadDecodesToDout, SecondFinishGivesTheEmptyDigest and ChunkedMessageGivesTheWholeDigest: a state of the
invariant with a supported selector, and the supported selectors at both ends of their range. -/
theorem witness_invariant_supported :
    inProgress.Inv ∧ supported inProgress.sel ∧ supported 0x0 ∧ supported 0x8 :=
  ⟨inv_inProgress, by decide, by decide, by decide⟩

/-- For ComputeDigestIsTheFacadeEntryPoint and IgnoredErrorKeepsRaising: unsupported selectors at both ends. -/
theorem witness_not_supported :
    ¬ supported 0x9 ∧ ¬ supported 0xF ∧ ∀ i ∈ [Instr.byteImm 0x41, .finish], i.isNew = false := by decide

/-- For SupportedSequencesNeverRaise: a sequence with a NEW in it. -/
theorem witness_supported_sequence :
    supported 0x2 ∧ ∀ i ∈ [Instr.byteImm 0x31, .finish, .newSha512, .finish], i.isSupported := by
  simp [Instr.isSupported]

/-- For PaddedMessageIsWholeBlocks. -/
theorem witness_shell :
    md5Shell.lf = 8 ∧ (∀ l, (md5Shell.lenField l).length = 8) ∧ 0 < 64 ∧ 8 < 64 :=
  ⟨rfl, fun _ => rfl, by decide, by decide⟩

/-- For SelIsWrittenByNewAlone and OnlyTheSelectedEngineIsTouched: a BYTE and a NEW of another engine. -/
theorem witness_exec_next :
    exec (.byteImm 0x62) inProgress = .next (byteCommand 0x62 inProgress) ∧
    exec .newMd5 inProgress = .next (newCommand 0x1 inProgress) := ⟨rfl, rfl⟩

/-- For EveryStepKeepsTheInvariant. -/
theorem witness_step_next : inProgress.Inv ∧ step inProgress = .next inProgress := ⟨inv_inProgress, rfl⟩

/-- For SafeHostNeverStopsTheMachine. -/
theorem witness_safeHost : safeHost (inProgress.setPending [.command 0x2061, .hardwareReset, .command 0x3000]) := by
  intro c hc
  simp [State.setPending] at hc
  rcases hc with rfl | rfl <;> decide

/-- For StepsRunTheCommandSequence. -/
theorem witness_sequence : ∀ i ∈ [Instr.newUnsupportedAB 0xB, .byteImm 0x00, .finish], i.wellFormed = true := by decide

theorem alike_inProgress : Alike inProgress inProgressTwin where
  sel := rfl
  err := rfl
  dlen := rfl
  dout := by
    intro a h
    exact absurd h (Nat.not_lt_zero a)
  table := rfl
  pending := rfl
  responses := rfl
  engine := by
    intro e h
    cases h
    refine ⟨rfl, rfl, rfl, rfl, ?_⟩
    intro a h
    have h1 : a < 1 := h
    have h0 : a = 0 := by omega
    subst h0
    rfl

/-- For UnselectedAndUnspecifiedStateIsNeverSeen: two different states that look alike. -/
theorem witness_alike :
    inProgress.Inv ∧ inProgressTwin.Inv ∧ Alike inProgress inProgressTwin ∧
    inProgress.md5.cnt ≠ inProgressTwin.md5.cnt ∧ inProgress.s256.buf ≠ inProgressTwin.s256.buf :=
  ⟨inv_inProgress, inv_inProgressTwin, alike_inProgress, by decide, by decide⟩

/-- The same two states with a word pending. -/
theorem inv_setPending {s : State} (h : s.Inv) (p : List HostMove) : (s.setPending p).Inv :=
  ⟨h.table, h.doutWf, h.dlenLe, h.md5, h.sha1, h.s256, h.s512, h.var256, h.var512, h.lastStatus⟩

theorem alike_setPending {s t : State} (h : Alike s t) (p : List HostMove) :
    Alike (s.setPending p) (t.setPending p) where
  sel := h.sel
  err := h.err
  dlen := h.dlen
  dout := h.dout
  table := h.table
  pending := rfl
  responses := h.responses
  engine := by
    intro e he
    have h1 := h.engine e he
    cases e <;> exact h1

/-- For UnselectedAndUnspecifiedStateIsNeverSeen: both of its clauses, a step that goes on and one that is refused. -/
theorem witness_alike_steps :
    ((inProgress.setPending [.command 0x2062]).Inv ∧ (inProgressTwin.setPending [.command 0x2062]).Inv ∧
      Alike (inProgress.setPending [.command 0x2062]) (inProgressTwin.setPending [.command 0x2062]) ∧
      step (inProgress.setPending [.command 0x2062]) = .next (byteCommand 0x62 (inProgress.setPending []))) ∧
    ((inProgress.setPending [.command 0x2162]).Inv ∧ (inProgressTwin.setPending [.command 0x2162]).Inv ∧
      Alike (inProgress.setPending [.command 0x2162]) (inProgressTwin.setPending [.command 0x2162]) ∧
      step (inProgress.setPending [.command 0x2162]) = .refused (.reservedWord (.byteSelNonzero 0x1))) :=
  ⟨⟨inv_setPending inv_inProgress _, inv_setPending inv_inProgressTwin _, alike_setPending alike_inProgress _, rfl⟩,
   ⟨inv_setPending inv_inProgress _, inv_setPending inv_inProgressTwin _, alike_setPending alike_inProgress _, rfl⟩⟩

end Sys2Proof.Tests
end

/-! PROOFS. The statements of 00_scope.md: steps and runs of the port (R15 to R17), byte orders (R13). -/

namespace Sys2Proof.Machine

/-! ### Bit fields side by side

A word put together from fields by shifts and `|||` has the sum of the shifted fields as its number. -/

theorem toNat_setWidth_shiftLeft {v w k : Nat} (x : BitVec v) (h : v + k ≤ w) :
    (x.setWidth w <<< k).toNat = x.toNat * 2 ^ k := by
  have hx : x.toNat * 2 ^ k < 2 ^ w := calc
    x.toNat * 2 ^ k < 2 ^ v * 2 ^ k := Nat.mul_lt_mul_of_pos_right x.isLt (Nat.two_pow_pos k)
    _ = 2 ^ (v + k) := (Nat.pow_add 2 v k).symm
    _ ≤ 2 ^ w := Nat.pow_le_pow_right (by decide) h
  have hv : 2 ^ v ≤ 2 ^ w := Nat.pow_le_pow_right (by decide) (by omega)
  have hx' : x.toNat < 2 ^ w := Nat.lt_of_lt_of_le x.isLt hv
  rw [BitVec.toNat_shiftLeft, BitVec.toNat_setWidth, Nat.mod_eq_of_lt hx', Nat.shiftLeft_eq, Nat.mod_eq_of_lt hx]

theorem toNat_or_of_dvd_of_lt {w : Nat} {x y : BitVec w} (k : Nat) (hx : 2 ^ k ∣ x.toNat) (hy : y.toNat < 2 ^ k) :
    (x ||| y).toNat = x.toNat + y.toNat := by
  obtain ⟨a, ha⟩ := hx
  rw [BitVec.toNat_or, ha, Nat.two_pow_add_eq_or_of_lt hy]

/-! ### The fields of a command word (30_encoding.md R90) -/

theorem toNat_opField (c : Word16) : (opField c).toNat = c.toNat / 4096 := by
  have hc := c.isLt
  simp only [opField, BitVec.extractLsb'_toNat, Nat.shiftRight_eq_div_pow]
  omega

theorem toNat_selField (c : Word16) : (selField c).toNat = c.toNat / 256 % 16 := by
  rw [selField, BitVec.extractLsb'_toNat, Nat.shiftRight_eq_div_pow]

theorem toNat_immField (c : Word16) : (immField c).toNat = c.toNat % 256 := by
  simp only [immField, BitVec.extractLsb'_toNat, Nat.shiftRight_eq_div_pow]
  omega

theorem toNat_packWord (op sel : BitVec 4) (imm : Byte) :
    (packWord op sel imm).toNat = 4096 * op.toNat + 256 * sel.toNat + imm.toNat := by
  have hop : (op.setWidth 16 <<< 12).toNat = op.toNat * 2 ^ 12 := toNat_setWidth_shiftLeft op (by decide)
  have hsel : (sel.setWidth 16 <<< 8).toNat = sel.toNat * 2 ^ 8 := toNat_setWidth_shiftLeft sel (by decide)
  have himm : (imm.setWidth 16).toNat = imm.toNat := BitVec.toNat_setWidth_of_le (by decide)
  have hhigh := toNat_or_of_dvd_of_lt (x := op.setWidth 16 <<< 12) (y := sel.setWidth 16 <<< 8) 12
    (by omega) (by omega)
  rw [packWord, toNat_or_of_dvd_of_lt 8 (by omega) (by omega)]
  omega

@[simp] theorem opField_packWord (op sel : BitVec 4) (imm : Byte) : opField (packWord op sel imm) = op := by
  apply BitVec.eq_of_toNat_eq
  rw [toNat_opField, toNat_packWord]
  omega

@[simp] theorem selField_packWord (op sel : BitVec 4) (imm : Byte) : selField (packWord op sel imm) = sel := by
  apply BitVec.eq_of_toNat_eq
  rw [toNat_selField, toNat_packWord]
  omega

@[simp] theorem immField_packWord (op sel : BitVec 4) (imm : Byte) : immField (packWord op sel imm) = imm := by
  apply BitVec.eq_of_toNat_eq
  rw [toNat_immField, toNat_packWord]
  omega

/-! ### The decoder, by the operation code (30_encoding.md R95) -/

theorem decode_eq (c : Word16) : decode c =
    if opField c = 0x1 then
      if immField c = 0 then .ok (newInstr (selField c)) else .error (.newImmNonzero (immField c))
    else if opField c = 0x2 then
      if selField c = 0 then .ok (.byteImm (immField c)) else .error (.byteSelNonzero (selField c))
    else if opField c = 0x3 then
      if selField c = 0 ∧ immField c = 0 then .ok .finish
      else .error (.finishFieldNonzero (selField c) (immField c))
    else .error (.reservedOp (opField c)) := by
  unfold decode
  split <;> simp_all

theorem decode_of_new {c : Word16} (hop : opField c = 0x1) (himm : immField c = 0) :
    decode c = .ok (newInstr (selField c)) := by
  rw [decode_eq, if_pos hop, if_pos himm]

theorem decode_of_byte {c : Word16} (hop : opField c = 0x2) (hsel : selField c = 0) :
    decode c = .ok (.byteImm (immField c)) := by
  rw [decode_eq, if_neg (by simp [hop]), if_pos hop, if_pos hsel]

theorem decode_of_finish {c : Word16} (hop : opField c = 0x3) (hsel : selField c = 0) (himm : immField c = 0) :
    decode c = .ok .finish := by
  rw [decode_eq, if_neg (by simp [hop]), if_neg (by simp [hop]), if_pos hop, if_pos ⟨hsel, himm⟩]

/-- The words R95 names by their fields decode. -/
theorem exists_decode_eq_ok {c : Word16} (h : decodableWord c) : ∃ i, decode c = .ok i := by
  have hop := toNat_opField c
  have hsel := toNat_selField c
  have himm := toNat_immField c
  rcases h with ⟨hnew, hzero⟩ | hbyte | hfinish
  · exact ⟨_, decode_of_new (by bv_omega) (by bv_omega)⟩
  · exact ⟨_, decode_of_byte (by bv_omega) (by bv_omega)⟩
  · exact ⟨_, decode_of_finish (by bv_omega) (by bv_omega) (by bv_omega)⟩

/-- The NEW command of a selector is the only well-formed one that carries it (30_encoding.md R92, R96). -/
theorem newInstr_of_newSel {i : Instr} {sel : BitVec 4} (hw : i.wellFormed = true) (h : newSel? i = some sel) :
    newInstr sel = i := by
  cases i with
  | newUnsupportedAB s => cases h; revert hw; revert sel; decide
  | newUnsupportedCF s => cases h; revert hw; revert sel; decide
  | byteImm b => cases h
  | finish => cases h
  | _ => cases h; rfl

theorem encode_of_newSel {i : Instr} {sel : BitVec 4} (h : newSel? i = some sel) : encode i = packWord 0x1 sel 0x00 := by
  cases i <;> cases h <;> rfl

theorem decode_encode {i : Instr} (hw : i.wellFormed = true) : decode (encode i) = .ok i := by
  cases hn : newSel? i with
  | some sel =>
    rw [encode_of_newSel hn, decode_of_new (opField_packWord ..) (immField_packWord ..), selField_packWord,
      newInstr_of_newSel hw hn]
  | none =>
    cases i with
    | byteImm b =>
      rw [encode, decode_of_byte (opField_packWord ..) (selField_packWord ..), immField_packWord]
    | finish => exact decode_of_finish (opField_packWord ..) (selField_packWord ..) (immField_packWord ..)
    | _ => cases hn

/-! ### One step, by what is pending (00_scope.md R15, R16) -/

theorem step_of_pending_nil {s : State} (h : s.pending = []) : step s = .next s := by
  simp [step, takeMove_nil h, idle]

theorem step_of_pending_cons {s : State} {m : HostMove} {rest : List HostMove} (h : s.pending = m :: rest) :
    step s = runMove m (s.setPending rest) := by
  simp [step, takeMove_cons h]

theorem runMove_command_of_decode {c : Word16} {i : Instr} (h : decode c = .ok i) (s : State) :
    runMove (.command c) s = exec i s := by
  simp [runMove, runWord, h]

/-- Settles O6. -/
theorem stepRunsTheDecodedCommand : Obligations.StepRunsTheDecodedCommand := by
  intro s i c rest hpending hdecode
  rw [step_of_pending_cons hpending, runMove_command_of_decode hdecode]

/-- Settles O7. -/
theorem noMoveMeansNoChange : Obligations.NoMoveMeansNoChange :=
  fun _ => step_of_pending_nil

/-! ### Runs of the machine (00_scope.md R17) -/

theorem run_succ_of_step {s t : State} (k : Nat) (h : step s = .next t) :
    Host.Core.run core (k + 1) s = Host.Core.run core k t := by
  have hcore : core.step s = .next t := h
  simp only [Host.Core.run, hcore]

theorem runCommands_cons_of_exec {i : Instr} {s t : State} (is : List Instr) (h : exec i s = .next t) :
    runCommands (i :: is) s = runCommands is t := by
  rw [runCommands, h]

/-- `exec_setPending` for a next state already at hand: a command neither reads nor writes the port. -/
theorem exec_setPending_of_exec {i : Instr} {s t : State} (h : exec i s = .next t) (p : List HostMove) :
    exec i (s.setPending p) = .next (t.setPending p) := by
  obtain ⟨t', ht', hp⟩ := exec_setPending i s p
  obtain rfl : t = t' := by injection h.symm.trans ht'
  exact hp

theorem exec_pending_of_exec {i : Instr} {s t : State} (h : exec i s = .next t) : t.pending = s.pending := by
  have hsame : Host.Outcome.next t = .next (t.setPending s.pending) := h.symm.trans (exec_setPending_of_exec h s.pending)
  injection hsame with hsame
  rw [hsame, State.setPending_pending]

/-- No command stops the machine (60_exceptions.md R321). -/
theorem exists_exec_eq_next (i : Instr) (s : State) : ∃ t, exec i s = .next t := by
  obtain ⟨t, ht, _⟩ := exec_setPending i s []
  exact ⟨t, ht⟩

theorem safeHost_of_tail {s t : State} {m : HostMove} (h : safeHost s) (hs : s.pending = m :: t.pending) :
    safeHost t := by
  intro c hc
  exact h c (hs ▸ List.mem_cons_of_mem m hc)

/-- The words still to come are decodable after every step, and no step stops the machine. -/
theorem exists_step_eq_next_of_safeHost {s : State} (h : safeHost s) : ∃ t, step s = .next t ∧ safeHost t := by
  rcases step_cases s with ⟨_, hs⟩ | ⟨rest, hp, hs⟩ | ⟨c, i, rest, hp, _, hs⟩ | ⟨c, why, rest, hp, hd, _⟩
  · exact ⟨s, hs, h⟩
  · exact ⟨_, hs, safeHost_of_tail h (by simpa using hp)⟩
  · obtain ⟨t, ht⟩ := exists_exec_eq_next i (s.setPending rest)
    exact ⟨t, hs.trans ht, safeHost_of_tail h (by simpa [exec_pending_of_exec ht] using hp)⟩
  · obtain ⟨i, hi⟩ := exists_decode_eq_ok (h c (by simp [hp]))
    simp [hd] at hi

/-- Settles O34, by induction on the number of steps: `safeHost` is the invariant. -/
theorem safeHostNeverStopsTheMachine : Obligations.SafeHostNeverStopsTheMachine := by
  intro s k hsafe
  induction k generalizing s with
  | zero => exact ⟨s, rfl⟩
  | succ k ih =>
    obtain ⟨t, hstep, ht⟩ := exists_step_eq_next_of_safeHost hsafe
    rw [run_succ_of_step k hstep]
    exact ih t ht

theorem step_command_encode {i : Instr} {s t : State} (hw : i.wellFormed = true) (h : exec i s = .next t)
    (p : List HostMove) : step (s.setPending (.command (encode i) :: p)) = .next (t.setPending p) := by
  rw [stepRunsTheDecodedCommand _ i (encode i) p rfl (decode_encode hw)]
  exact exec_setPending_of_exec h p

/-- Settles O35, by induction on the sequence: a step takes the first word, and its command leaves the others to the
steps to come. -/
theorem stepsRunTheCommandSequence : Obligations.StepsRunTheCommandSequence := by
  intro is s hw
  induction is generalizing s with
  | nil => rfl
  | cons i is ih =>
    obtain ⟨hi, his⟩ := List.forall_mem_cons.mp hw
    obtain ⟨t, ht⟩ := exists_exec_eq_next i s
    rw [runCommands_cons_of_exec is (exec_setPending_of_exec ht []), ← ih t his]
    exact run_succ_of_step is.length (step_command_encode hi ht _)

/-! ### Bytes and words as numbers (00_scope.md R13; 20_memory.md R62) -/

/-- The number a byte string stands for, most significant byte first. -/
def beValue (bytes : List Byte) : Nat := bytes.foldl (fun n b => 256 * n + b.toNat) 0

theorem toNat_byteOf {w : Nat} (x : BitVec w) (k : Nat) : (byteOf x k).toNat = x.toNat / 2 ^ (8 * k) % 256 := by
  rw [byteOf, BitVec.extractLsb'_toNat, Nat.shiftRight_eq_div_pow]

theorem toNat_be32 (b0 b1 b2 b3 : Byte) : (be32 b0 b1 b2 b3).toNat = beValue [b0, b1, b2, b3] := by
  have h0 : (b0.setWidth 32 <<< 24).toNat = b0.toNat * 2 ^ 24 := toNat_setWidth_shiftLeft b0 (by decide)
  have h1 : (b1.setWidth 32 <<< 16).toNat = b1.toNat * 2 ^ 16 := toNat_setWidth_shiftLeft b1 (by decide)
  have h2 : (b2.setWidth 32 <<< 8).toNat = b2.toNat * 2 ^ 8 := toNat_setWidth_shiftLeft b2 (by decide)
  have h3 : (b3.setWidth 32).toNat = b3.toNat := BitVec.toNat_setWidth_of_le (by decide)
  have h01 := toNat_or_of_dvd_of_lt (x := b0.setWidth 32 <<< 24) (y := b1.setWidth 32 <<< 16) 24
    (by omega) (by omega)
  have h012 := toNat_or_of_dvd_of_lt (x := b0.setWidth 32 <<< 24 ||| b1.setWidth 32 <<< 16)
    (y := b2.setWidth 32 <<< 8) 16 (by omega) (by omega)
  rw [be32, toNat_or_of_dvd_of_lt 8 (by omega) (by omega)]
  simp only [beValue, List.foldl_cons, List.foldl_nil]
  omega

theorem toNat_be64 (b0 b1 b2 b3 b4 b5 b6 b7 : Byte) :
    (be64 b0 b1 b2 b3 b4 b5 b6 b7).toNat = beValue [b0, b1, b2, b3, b4, b5, b6, b7] := by
  have hhigh : ((be32 b0 b1 b2 b3).setWidth 64 <<< 32).toNat = (be32 b0 b1 b2 b3).toNat * 2 ^ 32 :=
    toNat_setWidth_shiftLeft _ (by decide)
  have hlow : ((be32 b4 b5 b6 b7).setWidth 64).toNat = (be32 b4 b5 b6 b7).toNat :=
    BitVec.toNat_setWidth_of_le (by decide)
  rw [be64, toNat_or_of_dvd_of_lt 32 (by omega) (by omega), hhigh, hlow, toNat_be32, toNat_be32]
  simp only [beValue, List.foldl_cons, List.foldl_nil]
  omega

theorem be32_eq_ofNat_beValue (b0 b1 b2 b3 : Byte) :
    be32 b0 b1 b2 b3 = BitVec.ofNat 32 (beValue [b0, b1, b2, b3]) := by
  rw [← toNat_be32, BitVec.ofNat_toNat, BitVec.setWidth_eq]

theorem be64_eq_ofNat_beValue (b0 b1 b2 b3 b4 b5 b6 b7 : Byte) :
    be64 b0 b1 b2 b3 b4 b5 b6 b7 = BitVec.ofNat 64 (beValue [b0, b1, b2, b3, b4, b5, b6, b7]) := by
  rw [← toNat_be64, BitVec.ofNat_toNat, BitVec.setWidth_eq]

/-- `be32` puts a word together again from its bytes. -/
theorem be32_byteOf (x : Word32) : be32 (byteOf x 3) (byteOf x 2) (byteOf x 1) (byteOf x 0) = x := by
  apply BitVec.eq_of_toNat_eq
  rw [toNat_be32]
  simp only [beValue, List.foldl_cons, List.foldl_nil, toNat_byteOf]
  omega

/-- `be64` puts a word together again from its bytes. -/
theorem be64_byteOf (x : Word64) : be64 (byteOf x 7) (byteOf x 6) (byteOf x 5) (byteOf x 4)
    (byteOf x 3) (byteOf x 2) (byteOf x 1) (byteOf x 0) = x := by
  apply BitVec.eq_of_toNat_eq
  rw [toNat_be64]
  simp only [beValue, List.foldl_cons, List.foldl_nil, toNat_byteOf]
  omega

/-! ### The words of a block (20_memory.md R62) -/

/-- Piece `t` of a block cut into pieces of `n` bytes. -/
def blockPiece (n : Nat) (block : List Byte) (t : Nat) : List Byte := (block.drop (n * t)).take n

theorem blockPiece_append_zero {n : Nat} {p rest : List Byte} (hp : p.length = n) : blockPiece n (p ++ rest) 0 = p := by
  simp [blockPiece, ← hp]

theorem blockPiece_append_succ {n : Nat} {p rest : List Byte} (hp : p.length = n) (t : Nat) :
    blockPiece n (p ++ rest) (t + 1) = blockPiece n rest t := by
  have hn : n * (t + 1) = p.length + n * t := by rw [hp]; ring
  rw [blockPiece, hn, List.drop_length_add_append, blockPiece]

/-- A function that turns the pieces of `n` bytes into words from the front on makes word `t` of piece `t`. -/
theorem words_eq_map_blockPiece {α : Type} {n : Nat} {words : List Byte → List α} {word : List Byte → α}
    (hnil : words [] = []) (hcons : ∀ p rest, p.length = n → words (p ++ rest) = word p :: words rest)
    (k : Nat) (block : List Byte) (hlen : block.length = n * k) :
    words block = (List.range k).map fun t => word (blockPiece n block t) := by
  induction k generalizing block with
  | zero =>
    obtain rfl : block = [] := List.eq_nil_of_length_eq_zero (by simpa using hlen)
    simpa using hnil
  | succ k ih =>
    have hn : n * (k + 1) = n + n * k := by ring
    obtain ⟨p, rest, rfl, hp⟩ : ∃ p rest, block = p ++ rest ∧ p.length = n :=
      ⟨block.take n, block.drop n, (List.take_append_drop n block).symm, by simp; omega⟩
    have hrest : rest.length = n * k := by rw [List.length_append] at hlen; omega
    rw [hcons p rest hp, ih rest hrest, List.range_succ_eq_map, List.map_cons, List.map_map,
      blockPiece_append_zero hp]
    simp [Function.comp_def, blockPiece_append_succ hp]

theorem wordsBe32_append (p rest : List Byte) (hp : p.length = 4) :
    wordsBe32 (p ++ rest) = BitVec.ofNat 32 (beValue p) :: wordsBe32 rest := by
  match p, hp with
  | [b0, b1, b2, b3], _ => rw [← be32_eq_ofNat_beValue]; rfl

theorem wordsLe32_append (p rest : List Byte) (hp : p.length = 4) :
    wordsLe32 (p ++ rest) = BitVec.ofNat 32 (beValue p.reverse) :: wordsLe32 rest := by
  match p, hp with
  | [b0, b1, b2, b3], _ =>
    show le32 b0 b1 b2 b3 :: wordsLe32 rest = BitVec.ofNat 32 (beValue [b3, b2, b1, b0]) :: wordsLe32 rest
    rw [le32, be32_eq_ofNat_beValue]

theorem wordsBe64_append (p rest : List Byte) (hp : p.length = 8) :
    wordsBe64 (p ++ rest) = BitVec.ofNat 64 (beValue p) :: wordsBe64 rest := by
  match p, hp with
  | [b0, b1, b2, b3, b4, b5, b6, b7], _ => rw [← be64_eq_ofNat_beValue]; rfl

theorem wordsBe32_block {block : List Byte} (h : block.length = 64) :
    wordsBe32 block = (List.range 16).map fun t => BitVec.ofNat 32 (beValue (blockPiece 4 block t)) :=
  words_eq_map_blockPiece (word := fun p => BitVec.ofNat 32 (beValue p)) rfl wordsBe32_append 16 block h

theorem wordsLe32_block {block : List Byte} (h : block.length = 64) :
    wordsLe32 block = (List.range 16).map fun t => BitVec.ofNat 32 (beValue (blockPiece 4 block t).reverse) :=
  words_eq_map_blockPiece (word := fun p => BitVec.ofNat 32 (beValue p.reverse)) rfl wordsLe32_append 16 block h

theorem wordsBe64_block {block : List Byte} (h : block.length = 128) :
    wordsBe64 block = (List.range 16).map fun t => BitVec.ofNat 64 (beValue (blockPiece 8 block t)) :=
  words_eq_map_blockPiece (word := fun p => BitVec.ofNat 64 (beValue p)) rfl wordsBe64_append 16 block h

/-! ### The schedules begin with the block words -/

theorem suffix_sha1Expand (n : Nat) (ws : List Word32) : ws <:+ sha1Expand n ws := by
  induction n generalizing ws with
  | zero => exact List.suffix_rfl
  | succ n ih => exact (List.suffix_cons _ ws).trans (ih _)

theorem suffix_sha2Expand {w : Nat} (ssig0 ssig1 : BitVec w → BitVec w) (n : Nat) (ws : List (BitVec w)) :
    ws <:+ sha2Expand ssig0 ssig1 n ws := by
  induction n generalizing ws with
  | zero => exact List.suffix_rfl
  | succ n ih => exact (List.suffix_cons _ ws).trans (ih _)

/-- The schedules are built newest word first and turned round at the end. -/
theorem take_reverse_of_suffix {α : Type} {ws sched : List α} {n : Nat} (h : ws.reverse <:+ sched)
    (hn : ws.length = n) : sched.reverse.take n = ws := by
  have hprefix : ws <+: sched.reverse := by simpa using List.reverse_prefix.mpr h
  rw [← hn]
  exact (List.prefix_iff_eq_take.mp hprefix).symm

theorem sha1Schedule_take {block : List Byte} (h : block.length = 64) :
    (sha1Schedule block).take 16 = wordsBe32 block :=
  take_reverse_of_suffix (suffix_sha1Expand 64 _) (by simp [wordsBe32_block h])

theorem s256Schedule_take {block : List Byte} (h : block.length = 64) :
    (s256Schedule block).take 16 = wordsBe32 block :=
  take_reverse_of_suffix (suffix_sha2Expand _ _ 48 _) (by simp [wordsBe32_block h])

theorem s512Schedule_take {block : List Byte} (h : block.length = 128) :
    (s512Schedule block).take 16 = wordsBe64 block :=
  take_reverse_of_suffix (suffix_sha2Expand _ _ 64 _) (by simp [wordsBe64_block h])

/-! ### A word and its bytes, there and back (00_scope.md R13) -/

theorem wordsBe32_toBe32 (x : Word32) : wordsBe32 (toBe32 x) = [x] :=
  congrArg (fun w => [w]) (be32_byteOf x)

theorem wordsLe32_toLe32 (x : Word32) : wordsLe32 (toLe32 x) = [x] :=
  congrArg (fun w => [w]) (be32_byteOf x)

theorem wordsBe64_toBe64 (x : Word64) : wordsBe64 (toBe64 x) = [x] :=
  congrArg (fun w => [w]) (be64_byteOf x)

/-- Settles O42: the words of a block by cutting it into pieces, the schedules by their first sixteen words, the digest
bytes word by word from the definitions of OUT. -/
theorem oneByteOrderPerEngine : Obligations.OneByteOrderPerEngine := by
  unfold Obligations.OneByteOrderPerEngine
  intro be le beWide number piece
  refine ⟨?md5Words, ?shaWords, ?wideWords, fun _ => rfl, fun _ => rfl, fun _ => rfl, fun _ => rfl, fun _ => rfl,
    fun _ => rfl, fun x => ⟨wordsBe32_toBe32 x, wordsLe32_toLe32 x⟩, fun x => ⟨wordsBe64_toBe64 x, rfl⟩,
    by decide, by decide, by decide⟩
  case md5Words =>
    intro h block hlen
    rw [md5Compress, wordsLe32_block hlen]
    rfl
  case shaWords =>
    intro block hlen
    rw [sha1Schedule_take hlen, s256Schedule_take hlen]
    exact ⟨wordsBe32_block hlen, wordsBe32_block hlen⟩
  case wideWords =>
    intro block hlen
    rw [s512Schedule_take hlen]
    exact wordsBe64_block hlen

end Sys2Proof.Machine

/-! PROOFS. The statements of 30_encoding.md: the command word and its opcode map (R90 to R96), the line syntax (R98),
COMPUTE_DIGEST against HASH (R100, R101). -/

namespace Sys2Proof.Machine

/-! ### The three kinds of command (30_encoding.md R91)

The fourteen rows of the opcode table are the NEW of each selector, BYTE and FINISH. -/

@[simp] theorem newSel?_newInstr : ∀ sel : BitVec 4, newSel? (newInstr sel) = some sel := by decide

@[simp] theorem wellFormed_newInstr : ∀ sel : BitVec 4, (newInstr sel).wellFormed = true := by decide

theorem encode_newInstr (sel : BitVec 4) : encode (newInstr sel) = packWord 0x1 sel 0x00 :=
  encode_of_newSel (newSel?_newInstr sel)

theorem encode_byteImm (b : Byte) : encode (.byteImm b) = packWord 0x2 0x0 b := rfl

theorem encode_finish : encode .finish = packWord 0x3 0x0 0x00 := rfl

theorem wellFormed_cases {i : Instr} (hw : i.wellFormed = true) :
    (∃ sel, i = newInstr sel) ∨ (∃ b, i = .byteImm b) ∨ i = .finish := by
  cases hn : newSel? i with
  | some sel => exact .inl ⟨sel, (newInstr_of_newSel hw hn).symm⟩
  | none =>
    cases i with
    | byteImm b => exact .inr (.inl ⟨b, rfl⟩)
    | finish => exact .inr (.inr rfl)
    | _ => cases hn

/-- Settles O1: the fields of a packed word are the ones packed, and the NEW command of a selector is the only
well-formed one that carries it. -/
theorem decodeOfEncodeIsTheCommand : Obligations.DecodeOfEncodeIsTheCommand :=
  fun _ => decode_encode

/-! ### A word is its three fields (30_encoding.md R90) -/

theorem packWord_fields (c : Word16) : packWord (opField c) (selField c) (immField c) = c := by
  apply BitVec.eq_of_toNat_eq
  rw [toNat_packWord, toNat_opField, toNat_selField, toNat_immField]
  omega

@[simp] theorem opField_and (c d : Word16) : opField (c &&& d) = opField c &&& opField d :=
  BitVec.extractLsb'_and

@[simp] theorem selField_and (c d : Word16) : selField (c &&& d) = selField c &&& selField d :=
  BitVec.extractLsb'_and

@[simp] theorem immField_and (c d : Word16) : immField (c &&& d) = immField c &&& immField d :=
  BitVec.extractLsb'_and

/-! ### All words that decode (30_encoding.md R95) -/

/-- What a word that decodes is, by the command the decoder reads. -/
theorem decode_cases {c : Word16} {i : Instr} (h : decode c = .ok i) :
    (opField c = 0x1 ∧ immField c = 0 ∧ i = newInstr (selField c)) ∨
    (opField c = 0x2 ∧ selField c = 0 ∧ i = .byteImm (immField c)) ∨
    (opField c = 0x3 ∧ selField c = 0 ∧ immField c = 0 ∧ i = .finish) := by
  rw [decode_eq] at h
  split_ifs at h with hnew himm hbyte hsel hfinish hfields <;> cases h
  · exact .inl ⟨hnew, himm, rfl⟩
  · exact .inr (.inl ⟨hbyte, hsel, rfl⟩)
  · exact .inr (.inr ⟨hfinish, hfields.1, hfields.2, rfl⟩)

theorem exists_decode_eq_ok_iff (c : Word16) : (∃ i, decode c = .ok i) ↔
    (opField c = 0x1 ∧ immField c = 0) ∨ (opField c = 0x2 ∧ selField c = 0) ∨
    (opField c = 0x3 ∧ selField c = 0 ∧ immField c = 0) := by
  constructor
  · rintro ⟨i, hi⟩
    rcases decode_cases hi with ⟨hop, himm, _⟩ | ⟨hop, hsel, _⟩ | ⟨hop, hsel, himm, _⟩
    · exact .inl ⟨hop, himm⟩
    · exact .inr (.inl ⟨hop, hsel⟩)
    · exact .inr (.inr ⟨hop, hsel, himm⟩)
  · rintro (⟨hop, himm⟩ | ⟨hop, hsel⟩ | ⟨hop, hsel, himm⟩)
    · exact ⟨_, decode_of_new hop himm⟩
    · exact ⟨_, decode_of_byte hop hsel⟩
    · exact ⟨_, decode_of_finish hop hsel himm⟩

theorem wellFormed_of_decode {c : Word16} {i : Instr} (h : decode c = .ok i) : i.wellFormed = true := by
  rcases decode_cases h with ⟨_, _, rfl⟩ | ⟨_, _, rfl⟩ | ⟨_, _, _, rfl⟩
  · exact wellFormed_newInstr _
  · rfl
  · rfl

theorem encode_of_decode {c : Word16} {i : Instr} (h : decode c = .ok i) : encode i = c := by
  have hc := packWord_fields c
  rcases decode_cases h with ⟨hop, himm, rfl⟩ | ⟨hop, hsel, rfl⟩ | ⟨hop, hsel, himm, rfl⟩
  · rw [encode_newInstr, ← hc, hop, himm, selField_packWord]
  · rw [encode_byteImm, ← hc, hop, hsel, immField_packWord]
  · rw [encode_finish, ← hc, hop, hsel, himm]

/-- Settles O2: the fields the decoder read, packed again, are the word. -/
theorem decodedWordIsTheEncoding : Obligations.DecodedWordIsTheEncoding :=
  fun _ _ h => ⟨wellFormed_of_decode h, encode_of_decode h⟩

/-! ### The opcode map (30_encoding.md R96)

A word that matches a row does so field by field, so its selector bits can be looked at apart from `op` and `imm`. -/

theorem fields_of_matches {c m r : Word16} (h : c &&& m = r) :
    opField c &&& opField m = opField r ∧ selField c &&& selField m = selField r ∧
    immField c &&& immField m = immField r := by
  rw [← h, opField_and, selField_and, immField_and]
  exact ⟨rfl, rfl, rfl⟩

theorem encode_newInstr_matches : ∀ sel : BitVec 4,
    encode (newInstr sel) &&& (tableRow (newInstr sel)).2 = (tableRow (newInstr sel)).1 := by decide

theorem encode_matches_tableRow {i : Instr} (hw : i.wellFormed = true) :
    encode i &&& (tableRow i).2 = (tableRow i).1 := by
  rcases wellFormed_cases hw with ⟨sel, rfl⟩ | ⟨b, rfl⟩ | rfl
  · exact encode_newInstr_matches sel
  · exact Laws.TableRow.byteImm b hw
  · exact Laws.TableRow.finish hw

/-- The rows of NEW pin `op` to 1 and `imm` to 0. -/
theorem tableRow_newInstr_fields : ∀ sel : BitVec 4,
    opField (tableRow (newInstr sel)).1 = 0x1 ∧ opField (tableRow (newInstr sel)).2 = BitVec.allOnes 4 ∧
    immField (tableRow (newInstr sel)).1 = 0 ∧ immField (tableRow (newInstr sel)).2 = BitVec.allOnes 8 := by decide

/-- The selector bits of a NEW row are those of its own selectors only. -/
theorem tableRow_newInstr_of_sel_matches : ∀ sel sel' : BitVec 4,
    sel &&& selField (tableRow (newInstr sel')).2 = selField (tableRow (newInstr sel')).1 →
    tableRow (newInstr sel) = tableRow (newInstr sel') := by decide

/-- The row of BYTE pins `op` to 2 and `sel` to 0. -/
theorem tableRow_byteImm_fields (b : Byte) :
    opField (tableRow (.byteImm b)).1 = 0x2 ∧ opField (tableRow (.byteImm b)).2 = BitVec.allOnes 4 ∧
    selField (tableRow (.byteImm b)).1 = 0 ∧ selField (tableRow (.byteImm b)).2 = BitVec.allOnes 4 := by
  show opField 0x2000 = 0x2 ∧ opField 0xFF00 = BitVec.allOnes 4 ∧ selField 0x2000 = 0 ∧
    selField 0xFF00 = BitVec.allOnes 4
  decide

/-- A word that matches a row decodes to a command of that row: so no word matches two rows. -/
theorem exists_decode_of_matches {c : Word16} {j : Instr} (hw : j.wellFormed = true)
    (h : c &&& (tableRow j).2 = (tableRow j).1) : ∃ i, decode c = .ok i ∧ tableRow i = tableRow j := by
  obtain ⟨hop, hsel, himm⟩ := fields_of_matches h
  rcases wellFormed_cases hw with ⟨sel, rfl⟩ | ⟨b, rfl⟩ | rfl
  · obtain ⟨hop1, hopMask, himm0, himmMask⟩ := tableRow_newInstr_fields sel
    rw [hop1, hopMask, BitVec.and_allOnes] at hop
    rw [himm0, himmMask, BitVec.and_allOnes] at himm
    exact ⟨_, decode_of_new hop himm, tableRow_newInstr_of_sel_matches _ _ hsel⟩
  · obtain ⟨hop2, hopMask, hsel0, hselMask⟩ := tableRow_byteImm_fields b
    rw [hop2, hopMask, BitVec.and_allOnes] at hop
    rw [hsel0, hselMask, BitVec.and_allOnes] at hsel
    exact ⟨_, decode_of_byte hop hsel, rfl⟩
  · have hc : c = encode .finish := (BitVec.and_allOnes (x := c)).symm.trans h
    exact ⟨_, hc ▸ decode_encode rfl, rfl⟩

/-- Settles O3: a decoded word is an encoding and so matches its row, and a word that matches a row decodes to a command
of that row. -/
theorem decodeFollowsTheOpcodeMap : Obligations.DecodeFollowsTheOpcodeMap := by
  refine ⟨fun c => ⟨?ofDecode, ?ofRow⟩, ?sameRow, rfl, rfl, fun _ _ => rfl⟩
  case ofDecode =>
    rintro ⟨i, hi⟩
    have hmatch := encode_matches_tableRow (wellFormed_of_decode hi)
    rw [encode_of_decode hi] at hmatch
    exact ⟨i, wellFormed_of_decode hi, hmatch⟩
  case ofRow =>
    rintro ⟨j, hw, hj⟩
    obtain ⟨i, hi, _⟩ := exists_decode_of_matches hw hj
    exact ⟨i, hi⟩
  case sameRow =>
    intro c i j hi hw hj
    obtain ⟨i', hi', hrow⟩ := exists_decode_of_matches hw hj
    obtain rfl : i = i' := by injection hi.symm.trans hi'
    exact hrow

/-! ### The reserved words (30_encoding.md R95) -/

theorem step_refused_iff {s : State} {c : Word16} {rest : List HostMove} (hp : s.pending = .command c :: rest) :
    (∃ why, step s = .refused (.reservedWord why)) ↔ ¬ ∃ i, decode c = .ok i := by
  rcases step_cases s with ⟨h, _⟩ | ⟨_, h, _⟩ | ⟨c', i, rest', h, hd, hs⟩ | ⟨c', why, _, h, hd, hs⟩ <;>
    cases hp.symm.trans h
  · obtain ⟨t, ht⟩ := exists_exec_eq_next i (s.setPending rest)
    simp [hs, ht, hd]
  · simp [hs, hd]

/-- Settles O5: a pending word is refused when it does not decode, and its fields as numbers say when that is. -/
theorem reservedWordsAreRefused : Obligations.ReservedWordsAreRefused := by
  intro s c rest hpending
  rw [step_refused_iff hpending, exists_decode_eq_ok_iff]
  simp only [← BitVec.toNat_inj, toNat_opField, toNat_selField, toNat_immField]
  rfl

/-! ### COMPUTE_DIGEST and HASH (30_encoding.md R100, R101) -/

theorem exec_of_newSel {i : Instr} {sel : BitVec 4} (h : newSel? i = some sel) (s : State) :
    exec i s = .next (newCommand sel s) := by
  cases i <;> cases h <;> rfl

theorem exec_newInstr (sel : BitVec 4) (s : State) : exec (newInstr sel) s = .next (newCommand sel s) :=
  exec_of_newSel (newSel?_newInstr sel) s

theorem not_supported_iff (sel : BitVec 4) : ¬ supported sel ↔ engineOf sel = none := by
  rw [engineOf_eq_none_iff]
  omega

theorem lastResponse_of_responses {s : State} {rs : List Response} {r : Response} (h : s.responses = rs ++ [r]) :
    lastResponse s = some r :=
  (congrArg List.getLast? h).trans List.getLast?_concat

theorem lastResponse_newCommand_of_not_supported {sel : BitVec 4} (h : ¬ supported sel) (s : State) :
    lastResponse (newCommand sel s) = some ⟨.unsupportedAlgorithm, []⟩ := by
  have hnone := (not_supported_iff sel).mp h
  rcases newCommand_cases sel s with ⟨_, hs⟩ | ⟨e, he, _⟩
  · rw [hs]
    exact lastResponse_of_responses (raiseUnsupported_responses _)
  · cases hnone.symm.trans he

theorem lastResponse_newCommand_of_supported {sel : BitVec 4} (h : supported sel) (s : State) :
    lastResponse (newCommand sel s) = some ⟨.ok, []⟩ := by
  rcases newCommand_cases sel s with ⟨hnone, _⟩ | ⟨e, _, hs⟩
  · exact absurd h ((not_supported_iff sel).mpr hnone)
  · rw [hs]
    exact lastResponse_of_responses (completeCommand_responses _ _)

/-- COMPUTE_DIGEST looks at the response of its NEW and stops or goes on. -/
theorem computeDigest_eq (sel : BitVec 4) (m : List Byte) (s : State) : computeDigest sel m s =
    if lastResponse (newCommand sel s) = some ⟨.unsupportedAlgorithm, []⟩ then .next (newCommand sel s)
    else runCommands (updateSeq m ++ [.finish]) (newCommand sel s) := by
  rw [computeDigest, exec_newInstr]

theorem computeDigest_of_not_supported {sel : BitVec 4} (h : ¬ supported sel) (m : List Byte) (s : State) :
    computeDigest sel m s = .next (newCommand sel s) := by
  rw [computeDigest_eq, if_pos (lastResponse_newCommand_of_not_supported h s)]

theorem computeDigest_of_supported {sel : BitVec 4} (h : supported sel) (m : List Byte) (s : State) :
    computeDigest sel m s = runCommands (updateSeq m ++ [.finish]) (newCommand sel s) := by
  rw [computeDigest_eq, if_neg (by rw [lastResponse_newCommand_of_supported h s]; decide)]

/-- Settles O25: whether the expansion goes on is read off the response of its NEW. -/
theorem computeDigestIsTheFacadeEntryPoint : Obligations.ComputeDigestIsTheFacadeEntryPoint := by
  intro s sel m
  constructor
  · intro h
    rw [computeDigest_of_not_supported h, exec_newInstr]
    exact ⟨rfl, _, rfl, lastResponse_newCommand_of_not_supported h s⟩
  · intro h
    rw [computeDigest_of_supported h, hashSeq, runCommands_cons_of_exec _ (exec_newInstr sel s)]

/-- Settles O4, by running the decoder on the fifteen words. -/
theorem sampleWordsDecode : Obligations.SampleWordsDecode :=
  ⟨rfl, rfl, rfl, rfl, rfl, rfl, rfl, rfl, rfl, rfl, rfl, rfl, rfl, rfl, rfl⟩

/-! ### The line syntax (30_encoding.md R98) -/

/-- The character a hexadecimal digit is written as. -/
def hexChar (n : BitVec 4) : Char := Char.ofNat (hexDigit n).toNat

theorem digitValue_hexChar : ∀ n : BitVec 4, digitValue (hexChar n) = some n := by decide

theorem byteOperand_hex {h l : Char} {x y : BitVec 4} (hx : digitValue h = some x) (hy : digitValue l = some y) :
    byteOperand ['0', 'x', h, l] = some (x ++ y, []) := by
  have hread : hexOperand [h, l] = some (x ++ y, []) := by simp [hexOperand, hx, hy]
  simp [byteOperand, afterChars, quoteMark, hread, atWordEnd]

theorem oneByte_of_byteOperand {l : Line} {b : Byte} (hl : nothingLeft l = false)
    (h : byteOperand (skipSpaces l) = some (b, [])) : oneByte l = some b := by
  have hend : nothingLeft [] = true := rfl
  simp [oneByte, byteOperands, hl, h, hend]

theorem assembleLine_byte {h l : Char} {x y : BitVec 4} (hx : digitValue h = some x) (hy : digitValue l = some y) :
    assembleLine ['B', 'Y', 'T', 'E', ' ', '0', 'x', h, l] = some [.byteImm (x ++ y)] := by
  have hb : oneByte [' ', '0', 'x', h, l] = some (x ++ y) := oneByte_of_byteOperand rfl (byteOperand_hex hx hy)
  calc assembleLine ['B', 'Y', 'T', 'E', ' ', '0', 'x', h, l]
      = (oneByte [' ', '0', 'x', h, l]).map fun b => [.byteImm b] := rfl
    _ = some [.byteImm (x ++ y)] := by rw [hb, Option.map_some]

theorem lineOf_newInstr : ∀ sel : BitVec 4, lineOf (newInstr sel) = ['N', 'E', 'W', ' '] ++ selectorText sel := by
  decide

theorem assembleLine_new : ∀ sel : BitVec 4,
    assembleLine (['N', 'E', 'W', ' '] ++ selectorText sel) = some [newInstr sel] := by decide

theorem assembleLine_finish : assembleLine ['F', 'I', 'N', 'I', 'S', 'H'] = some [.finish] := by decide

theorem lineOf_byteImm (b : Byte) : lineOf (.byteImm b) =
    ['B', 'Y', 'T', 'E', ' ', '0', 'x', hexChar (b.extractLsb' 4 4), hexChar (b.extractLsb' 0 4)] := rfl

/-- Settles O47, by the three kinds of command: the selectors and FINISH are finitely many lines, and a byte is read
back from its two digits. -/
theorem assemblingALineGivesItsCommand : Obligations.AssemblingALineGivesItsCommand := by
  intro i hw
  rcases wellFormed_cases hw with ⟨sel, rfl⟩ | ⟨b, rfl⟩ | rfl
  · rw [lineOf_newInstr, assembleLine_new]
  · rw [lineOf_byteImm, assembleLine_byte (digitValue_hexChar _) (digitValue_hexChar _),
      BitVec.extractLsb'_append_extractLsb']
  · exact assembleLine_finish

end Sys2Proof.Machine

/-! PROOFS. The statements of 40_crc.md: the CRC engines behind BYTE and FINISH (R131 to R142), the table of CRC-32
(R139, R143), and the unreflected CRCs as polynomial remainders (R134, R138). -/

namespace Sys2Proof.Machine

/-! ### BYTE and FINISH with an engine selected (46_facade_hex.md R293, R294) -/

theorem exec_byteImm_of_engineOf {s : State} {e : Engine} (h : engineOf s.sel = some e) (b : Byte) :
    exec (.byteImm b) s = .next (completeCommand (absorbEngine e b s) []) := by
  rcases byteCommand_cases b s with ⟨hnone, _⟩ | ⟨e', he', hs⟩
  · cases hnone.symm.trans h
  · obtain rfl : e' = e := Option.some.inj (he'.symm.trans h)
    exact congrArg Host.Outcome.next hs

theorem exec_finish_of_engineOf {s : State} {e : Engine} (h : engineOf s.sel = some e) :
    exec .finish s = .next (completeCommand (resetEngine e (storeDigest (digestEngine e s) (finalEngine e s)))
      (hexEnc (digestEngine e s))) := by
  rcases finishCommand_cases s with ⟨hnone, _⟩ | ⟨e', he', hs⟩
  · cases hnone.symm.trans h
  · obtain rfl : e' = e := Option.some.inj (he'.symm.trans h)
    exact congrArg Host.Outcome.next hs

theorem engineOf_crc8 {sel : BitVec 4} (h : sel = 3) : engineOf sel = some .crc8 :=
  (engineOf_eq_some_iff sel).1.mpr h

theorem engineOf_crc16 {sel : BitVec 4} (h : sel = 4) : engineOf sel = some .crc16 :=
  (engineOf_eq_some_iff sel).2.1.mpr h

theorem engineOf_crc32 {sel : BitVec 4} (h : sel = 2) : engineOf sel = some .crc32 :=
  (engineOf_eq_some_iff sel).2.2.1.mpr h

/-! ### The steps of ABSORB, bit by bit (40_crc.md R132, R136, R141) -/

/-- The high bit a shift step tests, by its index. -/
theorem crcShiftLeft_eq_getLsbD {w : Nat} (poly r : BitVec w) :
    crcShiftLeft poly r = if r.getLsbD (w - 1) then (r <<< 1) ^^^ poly else r <<< 1 := by
  rw [crcShiftLeft, BitVec.msb_eq_getLsbD_last]

theorem crc8Absorb_eq (r : BitVec 8) (b : Byte) : crc8Absorb r b =
    (fun r : BitVec 8 => if r.getLsbD 7 then (r <<< 1) ^^^ 0x07 else r <<< 1)^[8] (r ^^^ b) :=
  congrArg (fun step : BitVec 8 → BitVec 8 => step^[8] (r ^^^ b)) (funext (crcShiftLeft_eq_getLsbD crc8Poly))

theorem crc16Absorb_eq (r : BitVec 16) (b : Byte) : crc16Absorb r b =
    (fun r : BitVec 16 => if r.getLsbD 15 then (r <<< 1) ^^^ 0x1021 else r <<< 1)^[8]
      (r ^^^ (b.setWidth 16 <<< 8)) :=
  congrArg (fun step : BitVec 16 → BitVec 16 => step^[8] (r ^^^ (b.setWidth 16 <<< 8)))
    (funext (crcShiftLeft_eq_getLsbD crc16Poly))

theorem toNat_crc32Index (r : BitVec 32) (b : Byte) : (crc32Index r b).toNat = (r ^^^ b.setWidth 32).toNat % 256 := by
  rw [crc32Index, toNat_byteOf, Nat.mul_zero, Nat.pow_zero, Nat.div_one, crc32Operand]

theorem crc32Absorb_eq (t : Vector Word32 256) (r : BitVec 32) (b : Byte) : crc32Absorb t r b =
    (r >>> 8) ^^^ t[((r ^^^ b.setWidth 32).toNat % 256)]'(Nat.mod_lt _ (by decide)) := by
  simp only [crc32Absorb, toNat_crc32Index]

/-- Settles O17, one engine after the other: the state BYTE completes holds the register ABSORB leaves. -/
theorem byteOnACrcEngine : Obligations.ByteOnACrcEngine := by
  intro s b
  refine ⟨fun hsel => ?_, fun hsel => ?_, fun hsel => ?_⟩
  · rw [exec_byteImm_of_engineOf (engineOf_crc8 hsel), ← crc8Absorb_eq]
    rfl
  · rw [exec_byteImm_of_engineOf (engineOf_crc16 hsel), ← crc16Absorb_eq]
    rfl
  · rw [exec_byteImm_of_engineOf (engineOf_crc32 hsel), ← crc32Absorb_eq]
    rfl

/-- FINISH writes the digest to `DOUT`, which has room for it. -/
theorem digestStored_digestEngine (e : Engine) {s : State} (h : s.dout.wf 64) :
    DigestStored (digestEngine e s) s.dout (s.dout.writeBytes 0 (digestEngine e s)) :=
  digestStored_writeBytes _ _ h (length_digestEngine_le e s)

/-- Settles O19: the digest bytes are FINAL's by definition, and `digestStored_digestEngine` says what `DOUT`
then reads. -/
theorem finishOnACrcEngine : Obligations.FinishOnACrcEngine := by
  intro s hdout
  refine ⟨fun hsel => ?_, fun hsel => ?_, fun hsel => ?_⟩
  · exact ⟨_, digestStored_digestEngine .crc8 hdout, exec_finish_of_engineOf (engineOf_crc8 hsel)⟩
  · exact ⟨_, digestStored_digestEngine .crc16 hdout, exec_finish_of_engineOf (engineOf_crc16 hsel)⟩
  · exact ⟨_, digestStored_digestEngine .crc32 hdout, exec_finish_of_engineOf (engineOf_crc32 hsel)⟩

/-! ### The table of CRC-32 (40_crc.md R139) -/

@[simp] theorem crc32T_reset : State.reset.crc32T = crc32Table := rfl

@[simp] theorem getElem_crc32Table (n : Nat) (h : n < 256) : crc32Table[n] = crc32Entry n := by
  simp [crc32Table]

theorem toList_crc32Table : crc32Table.toList = (List.range 256).map crc32Entry := by
  simp [crc32Table]

/-- Settles O10. The table is 256 closed words: each is computed by its eight iterations and compared. -/
theorem crc32TableIsTheListedTable : Obligations.Crc32TableIsTheListedTable := by
  simp only [Obligations.Crc32TableIsTheListedTable, crc32T_reset, getElem_crc32Table, toList_crc32Table]
  exact ⟨by decide +kernel, by decide +kernel, by decide +kernel⟩

/-! ### One table step is eight bit steps (40_crc.md R143)

The reflected shift step is linear over GF(2): the low byte of the register runs through the iterations of its table
entry, and the other bits are only shifted. -/

theorem crc32Shift_xor (x y : Word32) : crc32Shift (x ^^^ y) = crc32Shift x ^^^ crc32Shift y := by
  unfold crc32Shift
  rw [BitVec.getLsbD_xor, BitVec.ushiftRight_xor_distrib]
  cases x.getLsbD 0 <;> cases y.getLsbD 0 <;> simp only [Bool.xor_false, Bool.xor_true, Bool.not_true,
    Bool.false_eq_true, if_true, if_false]
  · ac_rfl
  · ac_rfl
  · rw [BitVec.xor_comm (y >>> 1), BitVec.xor_assoc, ← BitVec.xor_assoc crc32Poly, BitVec.xor_self, BitVec.zero_xor]

theorem crc32Shift_iterate_xor (k : Nat) (x y : Word32) :
    crc32Shift^[k] (x ^^^ y) = crc32Shift^[k] x ^^^ crc32Shift^[k] y := by
  induction k generalizing x y with
  | zero => rfl
  | succ k ih => rw [Function.iterate_succ_apply, crc32Shift_xor, ih]; rfl

/-- Steps that meet no set bit only shift. -/
theorem crc32Shift_iterate_of_low_bits_zero (k : Nat) (x : Word32) (h : ∀ i < k, x.getLsbD i = false) :
    crc32Shift^[k] x = x >>> k := by
  induction k generalizing x with
  | zero => rw [Function.iterate_zero_apply, BitVec.ushiftRight_zero]
  | succ k ih =>
    have hstep : crc32Shift x = x >>> 1 := if_neg (Bool.eq_false_iff.mp (h 0 (by omega)))
    have hlow : ∀ i < k, (x >>> 1).getLsbD i = false := fun i hi => by
      rw [BitVec.getLsbD_ushiftRight]
      exact h (1 + i) (by omega)
    rw [Function.iterate_succ_apply, hstep, ih _ hlow, ← BitVec.shiftRight_add, Nat.add_comm]

/-- A register is its low byte and the bits above it. -/
theorem low_byte_xor_high_bits (x : Word32) : BitVec.ofNat 32 (x.toNat % 256) ^^^ (x >>> 8 <<< 8) = x := by
  refine BitVec.eq_of_getLsbD_eq fun i hi => ?_
  have hlow : (BitVec.ofNat 32 (x.toNat % 256)).getLsbD i = (decide (i < 8) && x.getLsbD i) := by
    rw [BitVec.getLsbD_ofNat, show 256 = 2 ^ 8 from rfl, Nat.testBit_mod_two_pow, BitVec.testBit_toNat]
    simp [hi]
  rw [BitVec.getLsbD_xor, hlow]
  by_cases h8 : i < 8
  · simp [h8]
  · simp [h8, hi, Nat.add_sub_cancel' (Nat.le_of_not_lt h8)]

theorem crc32Shift_iterate_eight (x : Word32) :
    crc32Shift^[8] x = (x >>> 8) ^^^ crc32Entry (x.toNat % 256) := by
  have hhigh : crc32Shift^[8] (x >>> 8 <<< 8) = x >>> 8 := by
    rw [crc32Shift_iterate_of_low_bits_zero]
    · refine BitVec.eq_of_getLsbD_eq fun i hi => ?_
      rw [BitVec.getLsbD_ushiftRight, BitVec.getLsbD_shiftLeft, Nat.add_sub_cancel_left]
      by_cases h : 8 + i < 32
      · simp [h]
      · simp [BitVec.getLsbD_of_ge x _ (Nat.le_of_not_lt h)]
    · intro i hi
      simp [hi]
  calc crc32Shift^[8] x
      = crc32Shift^[8] (BitVec.ofNat 32 (x.toNat % 256) ^^^ (x >>> 8 <<< 8)) := by rw [low_byte_xor_high_bits]
    _ = crc32Entry (x.toNat % 256) ^^^ (x >>> 8) := by rw [crc32Shift_iterate_xor, hhigh]; rfl
    _ = (x >>> 8) ^^^ crc32Entry (x.toNat % 256) := BitVec.xor_comm ..

/-- XORing a byte into the register leaves the bits above the low byte alone. -/
theorem xor_setWidth_ushiftRight_eight (r : Word32) (b : Byte) : (r ^^^ b.setWidth 32) >>> 8 = r >>> 8 := by
  have hb : b.setWidth 32 >>> 8 = 0#32 := by
    apply BitVec.eq_of_toNat_eq
    rw [BitVec.toNat_ushiftRight, BitVec.toNat_setWidth_of_le (by decide), Nat.shiftRight_eq_div_pow,
      Nat.div_eq_of_lt b.isLt, BitVec.toNat_zero]
  rw [BitVec.ushiftRight_xor_distrib, hb, BitVec.xor_zero]

/-- Settles O38: eight bit steps are a table step, the byte being in the register's low byte alone. -/
theorem crc32TableStepIsEightBitSteps : Obligations.Crc32TableStepIsEightBitSteps := by
  refine ⟨fun r b => ?_, ?_⟩
  · rw [crc32T_reset, crc32Absorb_eq, getElem_crc32Table, ← xor_setWidth_ushiftRight_eight r b,
      ← crc32Shift_iterate_eight]
    rfl
  · decide +kernel

/-! ### The unreflected CRCs as polynomial remainders (40_crc.md R134, R138)

Bit `i` of a register is the coefficient of `X ^ i`. Modulo the CRC's polynomial a shift step multiplies by `X`, so that
absorbing a byte multiplies by `X ^ 8` and adds the byte times `X ^ w`. -/

section
open Polynomial

/-- A register read as a polynomial over GF(2). -/
noncomputable def bitPoly {w : Nat} (x : BitVec w) : (ZMod 2)[X] :=
  ∑ i ∈ Finset.range w, if x.getLsbD i then X ^ i else 0

/-- A message read as a polynomial over GF(2), most significant bit of each byte first, after the bits of `p`. -/
noncomputable def messagePoly (p : (ZMod 2)[X]) (m : List Byte) : (ZMod 2)[X] :=
  m.foldl (fun p b => p * X ^ 8 + bitPoly b) p

theorem messagePoly_nil (p : (ZMod 2)[X]) : messagePoly p [] = p := rfl

theorem messagePoly_cons (p : (ZMod 2)[X]) (b : Byte) (m : List Byte) :
    messagePoly p (b :: m) = messagePoly (p * X ^ 8 + bitPoly b) m := rfl

theorem bitPoly_xor {w : Nat} (x y : BitVec w) : bitPoly (x ^^^ y) = bitPoly x + bitPoly y := by
  rw [bitPoly, bitPoly, bitPoly, ← Finset.sum_add_distrib]
  refine Finset.sum_congr rfl fun i _ => ?_
  rw [BitVec.getLsbD_xor]
  cases x.getLsbD i <;> cases y.getLsbD i <;> simp [CharTwo.add_self_eq_zero]

/-- Multiplying by `X` is shifting left by one, the bit shifted out becoming `X ^ w`. -/
theorem X_mul_bitPoly {w : Nat} (x : BitVec (w + 1)) :
    X * bitPoly x = bitPoly (x <<< 1) + if x.msb then X ^ (w + 1) else 0 := by
  have hshift : bitPoly (x <<< 1) = ∑ i ∈ Finset.range w, X * if x.getLsbD i then X ^ i else 0 := by
    rw [bitPoly, Finset.sum_range_succ', BitVec.getLsbD_shiftLeft]
    refine (add_zero _).trans (Finset.sum_congr rfl fun i hi => ?_)
    rw [BitVec.getLsbD_shiftLeft]
    simp [Finset.mem_range.mp hi, pow_succ']
  rw [hshift, bitPoly, Finset.sum_range_succ, mul_add, Finset.mul_sum, BitVec.msb_eq_getLsbD_last, mul_ite,
    ← pow_succ', mul_zero, Nat.add_sub_cancel]

/-- A byte in the high bits of a 16-bit register. -/
theorem bitPoly_crc16Operand (b : Byte) : bitPoly (crc16Operand b) = bitPoly b * X ^ 8 := by
  have hlow : ∑ i ∈ Finset.range 8, (if (crc16Operand b).getLsbD i then (X : (ZMod 2)[X]) ^ i else 0) = 0 :=
    Finset.sum_eq_zero fun i hi => by
      rw [crc16Operand, BitVec.getLsbD_shiftLeft]
      simp [Finset.mem_range.mp hi]
  rw [bitPoly, bitPoly, Finset.sum_range_add _ 8 8, hlow, zero_add, Finset.sum_mul]
  refine Finset.sum_congr rfl fun i hi => ?_
  have hbit : (crc16Operand b).getLsbD (8 + i) = b.getLsbD i := by
    have hi := Finset.mem_range.mp hi
    rw [crc16Operand, BitVec.getLsbD_shiftLeft, Nat.add_sub_cancel_left, BitVec.getLsbD_setWidth]
    simp [show 8 + i < 16 by omega, show i < 16 by omega]
  rw [hbit, ite_mul, zero_mul, ← pow_add, Nat.add_comm]

theorem bitPoly_crc8Poly : bitPoly crc8Poly = X ^ 2 + X + 1 := by
  have hbits : bitPoly crc8Poly = 1 + X + X ^ 2 := by simp [bitPoly, crc8Poly, Finset.sum_range_succ]
  rw [hbits]
  ring

theorem bitPoly_crc16Poly : bitPoly crc16Poly = X ^ 12 + X ^ 5 + 1 := by
  have hbits : bitPoly crc16Poly = 1 + X ^ 5 + X ^ 12 := by simp [bitPoly, crc16Poly, Finset.sum_range_succ]
  rw [hbits]
  ring

/-- The polynomial a CRC divides by: the term `X ^ w` that the register has no bit for, and the bits of `poly`. -/
noncomputable def crcGenerator {w : Nat} (poly : BitVec w) : (ZMod 2)[X] := X ^ w + bitPoly poly

/-- One shift step multiplies by `X`, modulo the generator: the bit shifted out is replaced by `poly`. -/
theorem mk_bitPoly_crcShiftLeft {w : Nat} (poly r : BitVec (w + 1)) :
    AdjoinRoot.mk (crcGenerator poly) (bitPoly (crcShiftLeft poly r)) =
      AdjoinRoot.mk (crcGenerator poly) (X * bitPoly r) := by
  rw [AdjoinRoot.mk_eq_mk, X_mul_bitPoly, crcShiftLeft]
  cases r.msb
  · simp
  · refine ⟨1, ?_⟩
    rw [if_pos rfl, if_pos rfl, bitPoly_xor, add_sub_add_left_eq_sub, CharTwo.sub_eq_add, crcGenerator, mul_one,
      add_comm]

theorem mk_bitPoly_crcShiftLeft_iterate {w : Nat} (poly r : BitVec (w + 1)) (k : Nat) :
    AdjoinRoot.mk (crcGenerator poly) (bitPoly ((crcShiftLeft poly)^[k] r)) =
      AdjoinRoot.mk (crcGenerator poly) (X ^ k * bitPoly r) := by
  induction k generalizing r with
  | zero => rw [Function.iterate_zero_apply, pow_zero, one_mul]
  | succ k ih =>
    rw [Function.iterate_succ_apply, ih, map_mul, mk_bitPoly_crcShiftLeft, ← map_mul, ← mul_assoc, pow_succ]

/-- Absorbing a byte, modulo the generator: eight places up, and the byte above the register. -/
def AbsorbsModulo {w : Nat} (g : (ZMod 2)[X]) (absorb : BitVec w → Byte → BitVec w) : Prop :=
  ∀ r b, AdjoinRoot.mk g (bitPoly (absorb r b)) = AdjoinRoot.mk g (bitPoly r * X ^ 8 + bitPoly b * X ^ w)

theorem crc8Absorb_absorbsModulo : AbsorbsModulo (crcGenerator crc8Poly) crc8Absorb := by
  intro r b
  rw [crc8Absorb, mk_bitPoly_crcShiftLeft_iterate, bitPoly_xor, crc8Operand]
  ring_nf

theorem crc16Absorb_absorbsModulo : AbsorbsModulo (crcGenerator crc16Poly) crc16Absorb := by
  intro r b
  rw [crc16Absorb, mk_bitPoly_crcShiftLeft_iterate, bitPoly_xor, bitPoly_crc16Operand]
  ring_nf

/-- A register that stands for the bits of `p` stands, after a message, for those bits and the message's. -/
theorem mk_bitPoly_foldl {w : Nat} {g : (ZMod 2)[X]} {absorb : BitVec w → Byte → BitVec w}
    (habsorb : AbsorbsModulo g absorb) (m : List Byte) {r : BitVec w} {p : (ZMod 2)[X]}
    (hr : AdjoinRoot.mk g (bitPoly r) = AdjoinRoot.mk g (p * X ^ w)) :
    AdjoinRoot.mk g (bitPoly (m.foldl absorb r)) = AdjoinRoot.mk g (messagePoly p m * X ^ w) := by
  induction m generalizing r p with
  | nil => rwa [messagePoly_nil, List.foldl_nil]
  | cons b m ih =>
    rw [messagePoly_cons, List.foldl_cons]
    refine ih ?_
    rw [habsorb, map_add, map_mul, hr, ← map_mul, ← map_add]
    congr 1
    ring

theorem bitPoly_zero (w : Nat) : bitPoly (0 : BitVec w) = 0 :=
  Finset.sum_eq_zero fun i _ => by simp

/-- The register after a message, from zero, is its remainder. -/
theorem exists_quotient_foldl {w : Nat} {g : (ZMod 2)[X]} {absorb : BitVec w → Byte → BitVec w}
    (habsorb : AbsorbsModulo g absorb) (m : List Byte) :
    ∃ q, messagePoly 0 m * X ^ w = q * g + bitPoly (m.foldl absorb 0) := by
  have hmk := mk_bitPoly_foldl habsorb m (r := 0) (p := 0) (by rw [bitPoly_zero, zero_mul])
  obtain ⟨q, hq⟩ := AdjoinRoot.mk_eq_mk.mp hmk.symm
  exact ⟨q, by rw [mul_comm q, ← hq, sub_add_cancel]⟩

/-- Settles O37: both registers stand for the message modulo their generators, and the check values are computed. -/
theorem crcDigestIsThePolynomialRemainder : Obligations.CrcDigestIsThePolynomialRemainder := by
  have h8 := exists_quotient_foldl crc8Absorb_absorbsModulo
  have h16 := exists_quotient_foldl crc16Absorb_absorbsModulo
  rw [crcGenerator, bitPoly_crc8Poly] at h8
  rw [crcGenerator, bitPoly_crc16Poly] at h16
  simp only [← add_assoc] at h8 h16
  exact ⟨h8, h16, by decide +kernel, by decide +kernel⟩

end

end Sys2Proof.Machine

/-! PROOFS. The statements of 41_md_common.md: the length field (R164), the padded message (R165), BYTE and FINISH on the
Merkle–Damgård engines (R162, R163), and streaming against the whole-message form (R165, R170). -/

namespace Sys2Proof.Machine

/-! ### The length field (R164) -/

/-- Settles O41: each byte of a word stands at a literal offset, and the counts of 24 bits are computed. -/
theorem lengthFieldByteOrders : Obligations.LengthFieldByteOrders :=
  fun _ _ => ⟨rfl, rfl, rfl, rfl, by decide, by decide, show lenBe128 24 = _ by decide⟩

/-! ### The padded message (R165) -/

/-- The number of zero bytes without a negative number in it: they fill the block the length field ends in. -/
theorem padZeros_eq {bs : Nat} (lf n : Nat) (hbs : 0 < bs) : padZeros bs lf n = bs - 1 - (n + lf) % bs := by
  have hdiv := Int.mul_ediv_add_emod (n + lf : Int) bs
  have hlt := Nat.mod_lt (n + lf) hbs
  have hcong : ((bs : Int) - lf - 1 - n) = (bs - 1 - (n + lf : Int) % bs) + bs * -((n + lf : Int) / bs) := by
    linarith
  have hmod : (n + lf : Int) % bs = ((n + lf) % bs : Nat) := by push_cast; rfl
  rw [padZeros, hcong, Int.add_mul_emod_self_left, hmod, Int.emod_eq_of_lt (by omega) (by omega)]
  omega

theorem length_padMessage {σ : Type} {bs : Nat} {sh : MdShell σ} (hlen : ∀ l, (sh.lenField l).length = sh.lf)
    (hbs : 0 < bs) (m : List Byte) : (padMessage bs sh m).length = ((m.length + sh.lf) / bs + 1) * bs := by
  have hsum : (padMessage bs sh m).length = m.length + 1 + padZeros bs sh.lf m.length + sh.lf := by
    simp [padMessage, padSuffix, hlen]
    omega
  have hdiv := Nat.div_add_mod' (m.length + sh.lf) bs
  have hlt := Nat.mod_lt (m.length + sh.lf) hbs
  rw [hsum, padZeros_eq _ _ hbs, Nat.add_mul]
  omega

@[simp] theorem length_blocksOf (bs : Nat) (l : List Byte) : (blocksOf bs l).length = l.length / bs := by
  simp [blocksOf]

theorem length_of_mem_blocksOf {bs : Nat} {l k : List Byte} (h : k ∈ blocksOf bs l) : k.length = bs := by
  obtain ⟨i, hi, rfl⟩ := List.mem_map.mp h
  have hin : (i + 1) * bs ≤ l.length :=
    (Nat.mul_le_mul_right bs (List.mem_range.mp hi)).trans (Nat.div_mul_le_self _ _)
  rw [Nat.add_mul] at hin
  rw [List.length_take, List.length_drop]
  omega

/-- The first `q` pieces of `bs` bytes, put together again. -/
theorem flatten_map_pieces (bs : Nat) (l : List Byte) (q : Nat) :
    ((List.range q).map fun k => (l.drop (k * bs)).take bs).flatten = l.take (q * bs) := by
  induction q with
  | zero => simp
  | succ q ih => rw [List.range_succ, List.map_append, List.flatten_append, ih, Nat.add_mul, List.take_add]; simp

/-- Cutting into blocks loses the incomplete last piece only. -/
theorem flatten_blocksOf (bs : Nat) (l : List Byte) : (blocksOf bs l).flatten = l.take (l.length / bs * bs) :=
  flatten_map_pieces bs l _

/-- Settles O24: the zeros bring the padded message to a whole number of blocks (`length_padMessage`); the rest is about
cutting any list into blocks. -/
theorem paddedMessageIsWholeBlocks : Obligations.PaddedMessageIsWholeBlocks := by
  intro m
  refine ⟨?_, fun _ => ⟨rfl, rfl⟩, fun _ _ => ⟨rfl, rfl⟩, rfl, rfl, fun _ => rfl, fun _ => rfl⟩
  rintro σ bs _ sh rfl hlen hbs -
  have hpad := length_padMessage hlen hbs m
  have hcount : (padMessage bs sh m).length / bs = (m.length + sh.lf) / bs + 1 := by
    rw [hpad, Nat.mul_div_cancel _ hbs]
  refine ⟨?zeros, hpad, ?count, fun _ => length_of_mem_blocksOf, ?whole⟩
  case zeros =>
    rw [padZeros_eq _ _ hbs]
    omega
  case count => rw [length_blocksOf, hcount]
  case whole => rw [flatten_blocksOf, hcount, ← hpad, List.take_length]

/-! ### The selectors of the Merkle–Damgård engines (46_facade_hex.md R291) -/

theorem engineOf_md5 {sel : BitVec 4} (h : sel = 1) : engineOf sel = some .md5 :=
  (engineOf_eq_some_iff sel).2.2.2.1.mpr h

theorem engineOf_sha1 {sel : BitVec 4} (h : sel = 5) : engineOf sel = some .sha1 :=
  (engineOf_eq_some_iff sel).2.2.2.2.1.mpr h

theorem engineOf_s256 {sel : BitVec 4} (h : sel = 0 ∨ sel = 6) : engineOf sel = some .s256 :=
  (engineOf_eq_some_iff sel).2.2.2.2.2.1.mpr h

theorem engineOf_s512 {sel : BitVec 4} (h : sel = 7 ∨ sel = 8) : engineOf sel = some .s512 :=
  (engineOf_eq_some_iff sel).2.2.2.2.2.2.mpr h

/-! ### BYTE on a Merkle–Damgård engine (R162) -/

section
variable {σ : Type} {cw : Nat}

/-- The block COMPRESS reads is the buffer, index by index. -/
theorem mdBlock_eq_map_read (buf : Memory) : mdBlock cw buf = (List.range (2 ^ cw)).map buf.read := by
  rw [mdBlock, Memory.readBytes, List.range_eq_range']

/-- ABSORB of the shell is the rule of R162, in terms of what the buffer reads as. -/
theorem absorbed_mdAbsorb (sh : MdShell σ) {e : MdRecord σ cw} (hw : e.buf.wf (2 ^ cw)) (b : Byte) :
    Absorbed sh.compress b e (mdAbsorb sh e b) where
  cnt := mdAbsorb_cnt sh e b
  buf a := by rw [mdAbsorb_buf, read_mdStore hw]
  partialBlock hne := by
    have hlt := e.cur.isLt
    refine ⟨by rw [mdAbsorb_cur, Nat.mod_eq_of_lt (by omega)], ?_⟩
    rcases mdAbsorb_cases sh e b with ⟨hfull, _⟩ | ⟨_, hA⟩
    · exact absurd hfull hne
    · rw [hA]
  fullBlock hfull := by
    rcases mdAbsorb_cases sh e b with ⟨_, hA⟩ | ⟨hne, _⟩
    · rw [hA, ← mdBlock_eq_map_read]
      exact ⟨rfl, rfl⟩
    · exact absurd hfull hne

end

/-- Settles O18: `absorbed_mdAbsorb` for the shell of each engine; no variant bit reaches COMPRESS. -/
theorem byteOnADigestEngine : Obligations.ByteOnADigestEngine := by
  intro s b
  refine ⟨fun hw hsel => ?md5, fun hw hsel => ?sha1, fun hw hsel => ?s256, fun hw hsel => ?s512⟩
  case md5 => exact ⟨_, absorbed_mdAbsorb md5Shell hw b, exec_byteImm_of_engineOf (engineOf_md5 hsel) b⟩
  case sha1 => exact ⟨_, absorbed_mdAbsorb sha1Shell hw b, exec_byteImm_of_engineOf (engineOf_sha1 hsel) b⟩
  case s256 =>
    exact ⟨_, absorbed_mdAbsorb (s256Shell s.s256Var) hw b, exec_byteImm_of_engineOf (engineOf_s256 hsel) b⟩
  case s512 =>
    exact ⟨_, absorbed_mdAbsorb (s512Shell s.s512Var) hw b, exec_byteImm_of_engineOf (engineOf_s512 hsel) b⟩

/-! ### FINISH on a Merkle–Damgård engine (R163, R164; 46_facade_hex.md R294) -/

/-- In state `s` the selected engine `eng` is the shell `sh` run on the record `e`, which `put` replaces: its digest is the
shell's, and FINISH changes that record, `DOUT` and `DLEN` only. -/
structure FinishesAs {σ : Type} {cw : Nat} (eng : Engine) (s : State) (sh : MdShell σ) (e : MdRecord σ cw)
    (put : MdRecord σ cw → State) : Prop where
  selected : engineOf s.sel = some eng
  digest : digestEngine eng s = mdDigest sh e
  record : ∀ d, resetEngine eng (storeDigest d (finalEngine eng s)) =
    ((put (mdReset sh (mdFinal sh e))).setDout (s.dout.writeBytes 0 d)).setDlen (BitVec.ofNat 7 d.length)

theorem finishesAs_md5 {s : State} (h : s.sel = 1) : FinishesAs .md5 s md5Shell s.md5 s.setMd5 :=
  ⟨engineOf_md5 h, rfl, fun _ => rfl⟩

theorem finishesAs_sha1 {s : State} (h : s.sel = 5) : FinishesAs .sha1 s sha1Shell s.sha1 s.setSha1 :=
  ⟨engineOf_sha1 h, rfl, fun _ => rfl⟩

theorem finishesAs_s256 {s : State} {v : BitVec 1} (h : s.sel = 0 ∨ s.sel = 6) (hv : s.s256Var = v) :
    FinishesAs .s256 s (s256Shell v) s.s256 s.setS256 := by
  subst hv
  exact ⟨engineOf_s256 h, rfl, fun _ => rfl⟩

theorem finishesAs_s512 {s : State} {v : BitVec 1} (h : s.sel = 7 ∨ s.sel = 8) (hv : s.s512Var = v) :
    FinishesAs .s512 s (s512Shell v) s.s512 s.setS512 := by
  subst hv
  exact ⟨engineOf_s512 h, rfl, fun _ => rfl⟩

/-- FINISH on any engine that runs the shell, its digests being `n` bytes long. -/
theorem exists_finish_of_finishesAs {σ : Type} {cw n : Nat} {eng : Engine} {s : State} {sh : MdShell σ}
    {e : MdRecord σ cw} {put : MdRecord σ cw → State} (hfin : FinishesAs eng s sh e put) (hf : sh.Fits cw)
    (hlen : ∀ h, (sh.out h).length = n) (hdout : s.dout.wf 64) (hw : e.buf.wf (2 ^ cw)) :
    ∃ dout' e', DigestStored (finalDigest sh e) s.dout dout' ∧ Finished sh sh.iv e e' ∧
      (finalDigest sh e).length = n ∧
      exec .finish s = .next (completeCommand (((put e').setDout dout').setDlen (BitVec.ofNat 7 n))
        (hexEnc (finalDigest sh e))) := by
  have hd : digestEngine eng s = finalDigest sh e := hfin.digest.trans (finalDigest_eq_mdDigest hf e hw).symm
  have hn : (finalDigest sh e).length = n := hlen _
  refine ⟨_, _, hd ▸ digestStored_digestEngine eng hdout, finished_mdReset_mdFinal hf e hw, hn, ?_⟩
  rw [exec_finish_of_engineOf hfin.selected, hfin.record, hd, hn]

/-- Settles O20: one shell, six pairs of selector and variant, each with its digest length. -/
theorem finishOnADigestEngine : Obligations.FinishOnADigestEngine := by
  intro s hdout
  refine ⟨fun hsel hw => ?md5, fun hsel hw => ?sha1, fun ⟨hsel, hv⟩ hw => ?sha256, fun ⟨hsel, hv⟩ hw => ?sha224,
    fun ⟨hsel, hv⟩ hw => ?sha512, fun ⟨hsel, hv⟩ hw => ?sha384⟩
  case md5 => exact exists_finish_of_finishesAs (finishesAs_md5 hsel) md5Shell_fits length_md5Out hdout hw
  case sha1 => exact exists_finish_of_finishesAs (finishesAs_sha1 hsel) sha1Shell_fits length_sha1Out hdout hw
  case sha256 =>
    exact exists_finish_of_finishesAs (finishesAs_s256 (.inl hsel) hv) (s256Shell_fits 0) (length_s256Out 0) hdout hw
  case sha224 =>
    exact exists_finish_of_finishesAs (finishesAs_s256 (.inr hsel) hv) (s256Shell_fits 1) (length_s256Out 1) hdout hw
  case sha512 =>
    exact exists_finish_of_finishesAs (finishesAs_s512 (.inr hsel) hv) (s512Shell_fits 0) (length_s512Out 0) hdout hw
  case sha384 =>
    exact exists_finish_of_finishesAs (finishesAs_s512 (.inl hsel) hv) (s512Shell_fits 1) (length_s512Out 1) hdout hw


/-! ### An engine that has absorbed a message -/

/-- The record of engine `e` is the one `RESET_e` and the bytes of `m` lead to, as far as FINAL can tell. -/
def HasAbsorbed (e : Engine) (m : List Byte) (s : State) : Prop :=
  match e with
  | .crc8 => s.crc8 = m.foldl crc8Absorb crc8Reset
  | .crc16 => s.crc16 = m.foldl crc16Absorb crc16Reset
  | .crc32 => s.crc32 = m.foldl (crc32Absorb s.crc32T) crc32Reset
  | .md5 => Streamed md5Shell m s.md5
  | .sha1 => Streamed sha1Shell m s.sha1
  | .s256 => Streamed (s256Shell s.s256Var) m s.s256
  | .s512 => Streamed (s512Shell s.s512Var) m s.s512

theorem hasAbsorbed_resetEngine (e : Engine) {s : State} (hmd5 : s.md5.buf.wf (2 ^ Config.cursorWidth32))
    (hsha1 : s.sha1.buf.wf (2 ^ Config.cursorWidth32)) (hs256 : s.s256.buf.wf (2 ^ Config.cursorWidth32))
    (hs512 : s.s512.buf.wf (2 ^ Config.cursorWidth64)) : HasAbsorbed e [] (resetEngine e s) := by
  cases e with
  | crc8 | crc16 | crc32 => rfl
  | md5 => exact Streamed.reset md5Shell hmd5
  | sha1 => exact Streamed.reset sha1Shell hsha1
  | s256 => exact Streamed.reset (s256Shell s.s256Var) hs256
  | s512 => exact Streamed.reset (s512Shell s.s512Var) hs512

theorem hasAbsorbed_absorbEngine {e : Engine} {m : List Byte} {s : State} (h : HasAbsorbed e m s) (b : Byte) :
    HasAbsorbed e (m ++ [b]) (absorbEngine e b s) := by
  cases e with
  | crc8 => exact (congrArg (crc8Absorb · b) h).trans (List.foldl_concat ..).symm
  | crc16 => exact (congrArg (crc16Absorb · b) h).trans (List.foldl_concat ..).symm
  | crc32 => exact (congrArg (crc32Absorb s.crc32T · b) h).trans (List.foldl_concat ..).symm
  | md5 => exact Streamed.absorb (by decide) h b
  | sha1 => exact Streamed.absorb (by decide) h b
  | s256 => exact Streamed.absorb (by decide) h b
  | s512 => exact Streamed.absorb (by decide) h b

theorem hasAbsorbed_completeCommand {e : Engine} {m : List Byte} {s : State} (p : List Byte) :
    HasAbsorbed e m (completeCommand s p) ↔ HasAbsorbed e m s := by
  cases e <;> exact Iff.rfl

/-- Between NEW `sel` and FINISH: the message so far is `m`. The invariant of the streaming statement, kept by BYTE. -/
structure InMessage (sel : BitVec 4) (e : Engine) (m : List Byte) (s : State) : Prop where
  selEq : s.sel = sel
  engine : engineOf sel = some e
  absorbed : HasAbsorbed e m s
  table : s.crc32T = crc32Table
  var256 : ∀ v, s256VarOf sel = some v → s.s256Var = v
  var512 : ∀ v, s512VarOf sel = some v → s.s512Var = v
  doutWf : s.dout.wf 64

theorem inMessage_newCommand {s : State} (hs : s.Inv) {sel : BitVec 4} (hsel : supported sel) :
    ∃ e, InMessage sel e [] (newCommand sel s) := by
  rcases newCommand_cases sel s with ⟨hnone, _⟩ | ⟨e, he, hnew⟩
  · exact absurd hsel ((not_supported_iff sel).mpr hnone)
  · rw [hnew]
    exact ⟨e, {
      selEq := by simp
      engine := he
      absorbed := (hasAbsorbed_completeCommand _).mpr (hasAbsorbed_resetEngine e (by simpa using hs.md5.bufWf)
        (by simpa using hs.sha1.bufWf) (by simpa using hs.s256.bufWf) (by simpa using hs.s512.bufWf))
      table := by simpa using hs.table
      var256 := fun v hv => by simp [setVariant_s256Var, hv]
      var512 := fun v hv => by simp [setVariant_s512Var, hv]
      doutWf := by simpa using hs.doutWf }⟩

theorem inMessage_byte {sel : BitVec 4} {e : Engine} {m : List Byte} {s : State} (h : InMessage sel e m s) (b : Byte) :
    ∃ t, exec (.byteImm b) s = .next t ∧ InMessage sel e (m ++ [b]) t :=
  ⟨_, exec_byteImm_of_engineOf (h.selEq.symm ▸ h.engine) b, {
    selEq := by simpa using h.selEq
    engine := h.engine
    absorbed := (hasAbsorbed_completeCommand _).mpr (hasAbsorbed_absorbEngine h.absorbed b)
    table := by simpa using h.table
    var256 := by simpa using h.var256
    var512 := by simpa using h.var512
    doutWf := by simpa using h.doutWf }⟩

/-- UPDATE appends its bytes to the message so far (30_encoding.md R99). -/
theorem inMessage_updateSeq {sel : BitVec 4} {e : Engine} (bs : List Byte) {m : List Byte} {s : State}
    (h : InMessage sel e m s) (rest : List Instr) :
    ∃ t, runCommands (updateSeq bs ++ rest) s = runCommands rest t ∧ InMessage sel e (m ++ bs) t := by
  induction bs generalizing m s with
  | nil => exact ⟨s, rfl, by rwa [List.append_nil]⟩
  | cons b bs ih =>
    obtain ⟨u, hexec, hu⟩ := inMessage_byte h b
    obtain ⟨t, hrun, ht⟩ := ih hu
    exact ⟨t, (runCommands_cons_of_exec _ hexec).trans hrun, by rwa [List.append_assoc] at ht⟩

/-- How the bytes are split over UPDATEs makes no difference (R170). -/
theorem flatMap_updateSeq (chunks : List (List Byte)) : chunks.flatMap updateSeq = updateSeq chunks.flatten := by
  rw [updateSeq, List.map_flatten]
  rfl

/-! ### FINISH at the end of the message -/

/-- FINAL gives the digest of the message so far, under the variant the selector stands for (R165). -/
theorem InMessage.digestEngine_eq {sel : BitVec 4} {e : Engine} {m : List Byte} {s : State} (h : InMessage sel e m s) :
    digestEngine e s = wholeDigest sel m := by
  have habs := h.absorbed
  obtain ⟨hcrc8, hcrc16, hcrc32, hmd5, hsha1, hs256, hs512⟩ := engineOf_eq_some_iff sel
  cases e with
  | crc8 =>
    obtain rfl := hcrc8.mp h.engine
    exact congrArg crc8Final habs
  | crc16 =>
    obtain rfl := hcrc16.mp h.engine
    exact congrArg crc16Final habs
  | crc32 =>
    obtain rfl := hcrc32.mp h.engine
    rw [HasAbsorbed, h.table] at habs
    exact congrArg crc32Final habs
  | md5 =>
    obtain rfl := hmd5.mp h.engine
    exact Streamed.digest md5Shell_fits habs
  | sha1 =>
    obtain rfl := hsha1.mp h.engine
    exact Streamed.digest sha1Shell_fits habs
  | s256 =>
    have hwhole := Streamed.digest (s256Shell_fits s.s256Var) habs
    rcases hs256.mp h.engine with rfl | rfl <;> exact hwhole.trans (by rw [h.var256 _ rfl]; rfl)
  | s512 =>
    have hwhole := Streamed.digest (s512Shell_fits s.s512Var) habs
    rcases hs512.mp h.engine with rfl | rfl <;> exact hwhole.trans (by rw [h.var512 _ rfl]; rfl)

theorem length_wholeDigest (sel : BitVec 4) (m : List Byte) : (wholeDigest sel m).length = digestBytes sel := by
  unfold wholeDigest digestBytes
  split <;> rfl

theorem digestBytes_le : ∀ sel : BitVec 4, digestBytes sel ≤ 64 := by decide

/-- What was written to the front of a byte space reads back. -/
theorem Memory.readBytes_writeBytes {size : Nat} {m : Memory} (hm : m.wf size) {d : List Byte} (h : d.length ≤ size) :
    (m.writeBytes 0 d).readBytes 0 d.length = d := by
  apply List.ext_getElem (by simp)
  intro i _ hi
  rw [Memory.getElem_readBytes, Memory.read_writeBytes d hm (by omega), if_pos (by omega)]
  simp [hi]

/-- FINISH tells the host the digest of the message so far: in the response, in `DLEN` and in `DOUT`
(46_facade_hex.md R294). -/
theorem InMessage.finish {sel : BitVec 4} {e : Engine} {m : List Byte} {s : State} (h : InMessage sel e m s) :
    ∃ t, exec .finish s = .next t ∧ lastResponse t = some ⟨.ok, hexEnc (wholeDigest sel m)⟩ ∧
      t.dlen.toNat = digestBytes sel ∧ (hostView t).dout = wholeDigest sel m := by
  have hlen := length_wholeDigest sel m
  have hle := digestBytes_le sel
  have hexec := exec_finish_of_engineOf (h.selEq.symm ▸ h.engine)
  rw [h.digestEngine_eq] at hexec
  have hdlen : (BitVec.ofNat 7 (wholeDigest sel m).length).toNat = (wholeDigest sel m).length := by
    rw [BitVec.toNat_ofNat, Nat.mod_eq_of_lt (by omega)]
  refine ⟨_, hexec, lastResponse_of_responses (completeCommand_responses _ _), ?dlen, ?dout⟩
  case dlen => simpa using hdlen.trans hlen
  case dout =>
    simp only [hostView, completeCommand_dlen, completeCommand_dout, resetEngine_dlen, resetEngine_dout,
      storeDigest_dlen, storeDigest_dout, finalEngine_dout, hdlen]
    exact Memory.readBytes_writeBytes h.doutWf (by omega)

/-- Settles O23: NEW starts the empty message, `inMessage_updateSeq` runs the bytes by induction, and FINISH answers with
the digest of all of them. -/
theorem chunkedMessageGivesTheWholeDigest : Obligations.ChunkedMessageGivesTheWholeDigest := by
  intro s sel chunks hs hsel
  obtain ⟨e, hnew⟩ := inMessage_newCommand hs hsel
  obtain ⟨u, hrun, hu⟩ := inMessage_updateSeq chunks.flatten hnew [.finish]
  obtain ⟨t, hexec, hresult⟩ := hu.finish
  refine ⟨t, ?_, hresult⟩
  rw [runCommands_cons_of_exec _ (exec_newInstr sel s), flatMap_updateSeq, hrun, runCommands_cons_of_exec _ hexec]
  rfl

end Sys2Proof.Machine

/-! PROOFS. The statements of 42_sha256.md: the constants of the SHA engines (R191 to R193, with 43_sha1.md R222 and
45_sha512.md R261 to R263), their round functions (R194, with 43_sha1.md R223), and the digests of "abc" (R198). -/

namespace Sys2Proof.Machine

/-! ### Choose and majority (42_sha256.md R194), and the phase functions of SHA-1 (43_sha1.md R223)

The round functions work bit by bit, so a fact about them is one about three bits. -/

theorem chFn_eq_or {w : Nat} (x y z : BitVec w) : chFn x y z = (x &&& y) ||| (~~~x &&& z) := by
  have hbit : ∀ a b c : Bool, ((a && b) ^^ (!a && c)) = (a && b || !a && c) := by decide
  ext i hi
  simp [chFn, hbit]

theorem majFn_eq_or {w : Nat} (x y z : BitVec w) : majFn x y z = (x &&& y) ||| (x &&& z) ||| (y &&& z) := by
  have hbit : ∀ a b c : Bool, ((a && b) ^^ (a && c) ^^ (b && c)) = (a && b || a && c || b && c) := by decide
  ext i hi
  simp [majFn, hbit]

/-- A bit of Maj is set when at least two of the three bits are. -/
theorem getLsbD_majFn {w : Nat} (x y z : BitVec w) (i : Nat) : (majFn x y z).getLsbD i =
    decide (2 ≤ (x.getLsbD i).toNat + (y.getLsbD i).toNat + (z.getLsbD i).toNat) := by
  have hbit : ∀ a b c : Bool,
      ((a && b) ^^ (a && c) ^^ (b && c)) = decide (2 ≤ a.toNat + b.toNat + c.toNat) := by decide
  rw [← hbit]
  simp [majFn]

@[simp] theorem chFn_allOnes {w : Nat} (y z : BitVec w) : chFn (BitVec.allOnes w) y z = y := by
  simp [chFn]

@[simp] theorem chFn_zero {w : Nat} (y z : BitVec w) : chFn 0 y z = z := by
  simp [chFn]

theorem fSha1_of_lt_20 {t : Nat} (h : t < 20) (x y z : Word32) : fSha1 t x y z = chFn x y z := by
  rw [chFn_eq_or, fSha1, if_pos h]

theorem fSha1_of_lt_40 {t : Nat} (h20 : 20 ≤ t) (h40 : t < 40) (x y z : Word32) : fSha1 t x y z = x ^^^ y ^^^ z := by
  rw [fSha1, if_neg (by omega), if_pos h40]

theorem fSha1_of_lt_60 {t : Nat} (h40 : 40 ≤ t) (h60 : t < 60) (x y z : Word32) : fSha1 t x y z = majFn x y z := by
  rw [majFn_eq_or, fSha1, if_neg (by omega), if_neg (by omega), if_pos h60]

theorem fSha1_of_60_le {t : Nat} (h : 60 ≤ t) (x y z : Word32) : fSha1 t x y z = x ^^^ y ^^^ z := by
  rw [fSha1, if_neg (by omega), if_neg (by omega), if_neg (by omega)]

/-- Settles O44: the phases of SHA-1 choose, take parity and majority as SHA-256 does, and choose and majority are the
same with `or` as with exclusive or. -/
theorem sha2AndSha1FunctionIdentities : Obligations.Sha2AndSha1FunctionIdentities := by
  intro x y z
  refine ⟨fun t h => ?choose, fun t => (fSha1_of_lt_40 · · x y z), fun t h40 h60 => ?majority,
    fun t h60 _ => fSha1_of_60_le h60 x y z, chFn_allOnes y z, chFn_zero y z, fun i _ => getLsbD_majFn x y z i,
    chFn_zero 0 0, by decide, by decide, by decide, by decide, by decide⟩
  case choose =>
    rw [fSha1_of_lt_20 h]
    exact ⟨chFn_eq_or x y z, rfl⟩
  case majority =>
    rw [fSha1_of_lt_60 h40 h60]
    exact ⟨majFn_eq_or x y z, rfl⟩

/-! ### Fractions of roots (42_sha256.md R191 to R193, 45_sha512.md R261 to R263) -/

/-- `x` is the first `bits` bits of the fractional part of the root of degree `deg` of `p`, whose integer part is
below 8: the scaled root is at least `a * 2 ^ bits + x` and less than one more. -/
abbrev IsRootFraction (deg bits p x : Nat) : Prop :=
  ∃ a < 8, (a * 2 ^ bits + x) ^ deg ≤ p * 2 ^ (deg * bits) ∧ p * 2 ^ (deg * bits) < (a * 2 ^ bits + x + 1) ^ deg

/-- Fewer bits of the same fraction are its high bits. -/
theorem IsRootFraction.high_bits {deg b c p x : Nat} (h : IsRootFraction deg (b + c) p x) :
    IsRootFraction deg b p (x / 2 ^ c) := by
  obtain ⟨a, ha, hle, hlt⟩ := h
  have hc : 0 < 2 ^ c := Nat.two_pow_pos c
  have hscale : p * 2 ^ (deg * (b + c)) = p * 2 ^ (deg * b) * (2 ^ c) ^ deg := by
    rw [Nat.mul_assoc, ← Nat.pow_mul, ← Nat.pow_add]
    ring_nf
  have hcut : a * 2 ^ b + x / 2 ^ c = (a * 2 ^ (b + c) + x) / 2 ^ c := by
    rw [Nat.pow_add, ← Nat.mul_assoc, Nat.add_comm, Nat.add_comm _ x, Nat.add_mul_div_right _ _ hc]
  have hfloor := Nat.div_mul_le_self (a * 2 ^ (b + c) + x) (2 ^ c)
  have hceil : a * 2 ^ (b + c) + x + 1 ≤ ((a * 2 ^ (b + c) + x) / 2 ^ c + 1) * 2 ^ c := by
    rw [Nat.add_one_mul]
    exact Nat.lt_div_mul_add hc
  rw [hscale] at hle hlt
  rw [← hcut] at hceil hfloor
  refine ⟨a, ha, Nat.le_of_mul_le_mul_right ?_ (Nat.pow_pos (n := deg) hc),
    Nat.lt_of_mul_lt_mul_right (a := (2 ^ c) ^ deg) ?_⟩ <;> rw [← Nat.mul_pow]
  · exact (Nat.pow_le_pow_left hfloor deg).trans hle
  · exact hlt.trans_le (Nat.pow_le_pow_left hceil deg)

/-- The primes from 2 to 409, as many as K512 has words (45_sha512.md R263). -/
def firstPrimes : List Nat := [2, 3, 5, 7, 11, 13, 17, 19, 23, 29, 31, 37, 41, 43, 47, 53, 59, 61, 67, 71, 73, 79, 83,
  89, 97, 101, 103, 107, 109, 113, 127, 131, 137, 139, 149, 151, 157, 163, 167, 173, 179, 181, 191, 193, 197, 199, 211,
  223, 227, 229, 233, 239, 241, 251, 257, 263, 269, 271, 277, 281, 283, 293, 307, 311, 313, 317, 331, 337, 347, 349,
  353, 359, 367, 373, 379, 383, 389, 397, 401, 409]

/-! The tables of 64-bit words are computed; each table of 32-bit words is one half of a table of 64-bit words. -/

theorem isRootFraction_k512 : ∀ px ∈ firstPrimes.zip k512, IsRootFraction 3 64 px.1 px.2.toNat := by
  decide +kernel

theorem isRootFraction_iv512 :
    ∀ px ∈ (firstPrimes.take 8).zip iv512.toList, IsRootFraction 2 64 px.1 px.2.toNat := by decide

theorem isRootFraction_iv384 :
    ∀ px ∈ ((firstPrimes.drop 8).take 8).zip iv384.toList, IsRootFraction 2 64 px.1 px.2.toNat := by decide

/-- The first 32 bits of a word, which hold the first 32 of its fraction bits. -/
def highHalf (x : Word64) : Word32 := x.extractLsb' 32 32

/-- The second 32 bits of a word. -/
def lowHalf (x : Word64) : Word32 := x.setWidth 32

theorem toNat_highHalf (x : Word64) : (highHalf x).toNat = x.toNat / 2 ^ 32 := by
  rw [highHalf, BitVec.extractLsb'_toNat, Nat.shiftRight_eq_div_pow, Nat.mod_eq_of_lt]
  have hx := x.isLt
  omega

theorem toNat_lowHalf (x : Word64) : (lowHalf x).toNat = x.toNat % 2 ^ 32 := BitVec.toNat_setWidth ..

theorem k256_eq_highHalf : k256 = (k512.take 64).map highHalf := by decide

theorem iv256_eq_highHalf : iv256.toList = iv512.toList.map highHalf := by decide

theorem iv224_eq_lowHalf : iv224.toList = iv384.toList.map lowHalf := by decide

theorem isRootFraction_highHalf {deg : Nat} {ps : List Nat} {xs : List Word64}
    (h : ∀ px ∈ ps.zip xs, IsRootFraction deg 64 px.1 px.2.toNat) :
    ∀ px ∈ ps.zip (xs.map highHalf), IsRootFraction deg 32 px.1 px.2.toNat := by
  rw [List.zip_map_right]
  intro px hpx
  obtain ⟨⟨p, x⟩, hmem, rfl⟩ := List.mem_map.mp hpx
  show IsRootFraction deg 32 p (highHalf x).toNat
  rw [toNat_highHalf]
  exact IsRootFraction.high_bits (h (p, x) hmem)

theorem isRootFraction_lowHalf {deg : Nat} {ps : List Nat} {xs : List Word64}
    (h : ∀ px ∈ ps.zip xs, IsRootFraction deg 64 px.1 px.2.toNat) :
    ∀ px ∈ ps.zip (xs.map lowHalf),
      ∃ high < 2 ^ 32, IsRootFraction deg 64 px.1 (high * 2 ^ 32 + px.2.toNat) := by
  rw [List.zip_map_right]
  intro px hpx
  obtain ⟨⟨p, x⟩, hmem, rfl⟩ := List.mem_map.mp hpx
  refine ⟨(highHalf x).toNat, (highHalf x).isLt, ?_⟩
  show IsRootFraction deg 64 p ((highHalf x).toNat * 2 ^ 32 + (lowHalf x).toNat)
  rw [toNat_highHalf, toNat_lowHalf, Nat.div_add_mod']
  exact h (p, x) hmem

theorem isRootFraction_k256 :
    ∀ px ∈ (firstPrimes.take 64).zip k256, IsRootFraction 3 32 px.1 px.2.toNat := by
  rw [k256_eq_highHalf]
  refine isRootFraction_highHalf fun px hpx => isRootFraction_k512 px ?_
  rw [List.zip, ← List.take_zipWith] at hpx
  exact List.mem_of_mem_take hpx

theorem isRootFraction_iv256 :
    ∀ px ∈ (firstPrimes.take 8).zip iv256.toList, IsRootFraction 2 32 px.1 px.2.toNat :=
  iv256_eq_highHalf ▸ isRootFraction_highHalf isRootFraction_iv512

theorem isRootFraction_iv224 : ∀ px ∈ ((firstPrimes.drop 8).take 8).zip iv224.toList,
    ∃ high < 2 ^ 32, IsRootFraction 2 64 px.1 (high * 2 ^ 32 + px.2.toNat) :=
  iv224_eq_lowHalf ▸ isRootFraction_lowHalf isRootFraction_iv384

/-! ### The constant of a round of SHA-1 (43_sha1.md R222) -/

theorem k1_of_phase : ∀ t < 80, k1.getD (t / 20) 0 =
    if t < 20 then 0x5a827999 else if t < 40 then 0x6ed9eba1 else if t < 60 then 0x8f1bbcdc else 0xca62c1d6 := by
  decide

/-- Settles O11: the tables of 64-bit words meet the inequalities of their roots, and the tables of 32-bit words are
halves of them. -/
theorem constantsAreFractionsOfRoots : Obligations.ConstantsAreFractionsOfRoots := by
  refine ⟨length_k512, length_k256, isRootFraction_k512, isRootFraction_k256, isRootFraction_iv512,
    isRootFraction_iv256, isRootFraction_iv384, isRootFraction_iv224, ⟨rfl, by decide⟩, fun v t w ht => ?phase,
    fun _ => ⟨rfl, rfl⟩⟩
  case phase => rw [← k1_of_phase t ht, sha1Round]

/-! ### COMPUTE_DIGEST of a whole message (30_encoding.md R101) -/

theorem mdInv_empty {σ : Type} (cw : Nat) (h : σ) : MdInv (⟨h, 0, 0, []⟩ : MdRecord σ cw) where
  cntBytes := rfl
  curBytes := by simp
  bufWf := ⟨List.Pairwise.nil, fun _ hc => absurd hc List.not_mem_nil⟩

theorem inv_reset : State.reset.Inv where
  table := rfl
  doutWf := ⟨List.Pairwise.nil, fun _ hc => absurd hc List.not_mem_nil⟩
  dlenLe := by decide
  md5 := mdInv_empty _ _
  sha1 := mdInv_empty _ _
  s256 := mdInv_empty _ _
  s512 := mdInv_empty _ _
  var256 := by decide
  var512 := by decide
  lastStatus := fun _ hr => absurd hr nofun

/-- What the host reads after COMPUTE_DIGEST is the digest of the whole message, whatever ran before. -/
theorem exists_computeDigest_eq_next {s : State} (hs : s.Inv) {sel : BitVec 4} (hsel : supported sel) (m : List Byte) :
    ∃ t, computeDigest sel m s = .next t ∧ (hostView t).dout = wholeDigest sel m := by
  obtain ⟨t, hrun, _, _, hdout⟩ := chunkedMessageGivesTheWholeDigest s sel [m] hs hsel
  rw [List.flatMap_singleton, runCommands_cons_of_exec _ (exec_newInstr sel s), ← computeDigest_of_supported hsel]
    at hrun
  exact ⟨t, hrun, by simpa using hdout⟩

/-! ### The digests of "abc" (95_test_vectors.md section 9, row M3)

The whole-message form of each digest is a closed computation of one block. -/

/-- The `n` bytes of the number `x`, most significant first. -/
def numeralBytes (n x : Nat) : List Byte := (List.range n).map fun k => BitVec.ofNat 8 (x / 256 ^ (n - 1 - k))

/-- The message "abc" in ASCII. -/
def abcBytes : List Byte := [0x61, 0x62, 0x63]

theorem wholeDigest_abc :
    wholeDigest 0x3 abcBytes = numeralBytes 1 0x5f ∧
    wholeDigest 0x4 abcBytes = numeralBytes 2 0x9dd6 ∧
    wholeDigest 0x2 abcBytes = numeralBytes 4 0x352441c2 ∧
    wholeDigest 0x1 abcBytes = numeralBytes 16 0x900150983cd24fb0d6963f7d28e17f72 ∧
    wholeDigest 0x5 abcBytes = numeralBytes 20 0xa9993e364706816aba3e25717850c26c9cd0d89d ∧
    wholeDigest 0x6 abcBytes = numeralBytes 28 0x23097d223405d8228642a477bda255b32aadbce4bda0b3f7e36c9da7 ∧
    wholeDigest 0x0 abcBytes = numeralBytes 32 0xba7816bf8f01cfea414140de5dae2223b00361a396177a9cb410ff61f20015ad ∧
    wholeDigest 0x7 abcBytes = numeralBytes 48
      0xcb00753f45a35e8bb5a03d699ac65007272c32ab0eded1631a8b605a43ff5bed8086072ba1e7cc2358baeca134c825a7 ∧
    wholeDigest 0x8 abcBytes = numeralBytes 64
      0xddaf35a193617abacc417349ae20413112e6fa4e89a97ea20a9eeee64b55d39a2192992a274fc1a836ba3c23a3feebbd454d4423643ce80e2a9ac94fa54ca49f := by
  decide +kernel

/-- Settles O46: from reset the host reads the whole-message digest, which is the listed one under each selector. -/
theorem digestsOfAbcUnderEverySelector : Obligations.DigestsOfAbcUnderEverySelector := by
  unfold Obligations.DigestsOfAbcUnderEverySelector
  intro digest bytes
  have hdigest : ∀ {sel : BitVec 4} {n x : Nat}, supported sel → wholeDigest sel abcBytes = numeralBytes n x →
      digest sel = bytes n x := by
    intro sel n x hsel hwhole
    obtain ⟨t, hrun, hdout⟩ : ∃ t, computeDigest sel [0x61, 0x62, 0x63] State.reset = .next t ∧
        (hostView t).dout = wholeDigest sel abcBytes := exists_computeDigest_eq_next inv_reset hsel abcBytes
    calc digest sel
        = some (hostView t).dout := by simp only [digest, hrun]
      _ = bytes n x := congrArg some (hdout.trans hwhole)
  obtain ⟨hcrc8, hcrc16, hcrc32, hmd5, hsha1, hsha224, hsha256, hsha384, hsha512⟩ := wholeDigest_abc
  exact ⟨hdigest (by decide) hcrc8, hdigest (by decide) hcrc16, hdigest (by decide) hcrc32, hdigest (by decide) hmd5,
    hdigest (by decide) hsha1, hdigest (by decide) hsha224, hdigest (by decide) hsha256, hdigest (by decide) hsha384,
    hdigest (by decide) hsha512⟩

end Sys2Proof.Machine

/-! PROOFS. The statement of 44_md5.md: the message indices (R244) and the rotation amounts (R243) of the 64 rounds.
Both change with the quartile, so each table is read quartile by quartile. -/

namespace Sys2Proof.Machine

theorem range_64_eq_quartiles :
    List.range 64 = List.range' 0 16 ++ List.range' 16 16 ++ List.range' 32 16 ++ List.range' 48 16 := rfl

/-! ### The index formula of each quartile (44_md5.md R244) -/

theorem gMd5_of_lt_16 {i : Nat} (h : i < 16) : gMd5 i = i := by
  rw [gMd5, if_pos h]

theorem gMd5_of_lt_32 {i : Nat} (h16 : 16 ≤ i) (h32 : i < 32) : gMd5 i = (5 * i + 1) % 16 := by
  rw [gMd5, if_neg (by omega), if_pos h32]

theorem gMd5_of_lt_48 {i : Nat} (h32 : 32 ≤ i) (h48 : i < 48) : gMd5 i = (3 * i + 5) % 16 := by
  rw [gMd5, if_neg (by omega), if_neg (by omega), if_pos h48]

theorem gMd5_of_48_le {i : Nat} (h : 48 ≤ i) : gMd5 i = 7 * i % 16 := by
  rw [gMd5, if_neg (by omega), if_neg (by omega), if_neg (by omega)]

theorem map_gMd5_range_64 : (List.range 64).map gMd5 =
    List.range' 0 16 ++ (List.range' 16 16).map (fun i => (5 * i + 1) % 16) ++
    (List.range' 32 16).map (fun i => (3 * i + 5) % 16) ++ (List.range' 48 16).map (fun i => 7 * i % 16) := by
  have hmem {start i : Nat} (hi : i ∈ List.range' start 16) : start ≤ i ∧ i < start + 16 := List.mem_range'_1.mp hi
  rw [range_64_eq_quartiles, List.map_append, List.map_append, List.map_append,
    List.map_congr_left (f := gMd5) fun _ hi => gMd5_of_lt_16 (hmem hi).2, List.map_id',
    List.map_congr_left fun _ hi => gMd5_of_lt_32 (hmem hi).1 (hmem hi).2,
    List.map_congr_left fun _ hi => gMd5_of_lt_48 (hmem hi).1 (hmem hi).2,
    List.map_congr_left fun _ hi => gMd5_of_48_le (hmem hi).1]

/-! ### The rotation amounts of a quartile (44_md5.md R243) -/

theorem sMd5_quartile (q : Nat) {j : Nat} (h : j < 16) :
    sMd5 (16 * q + j) = (sMd5Rows.getD q []).getD (j % 4) 0 := by
  rw [sMd5, show (16 * q + j) / 16 = q by omega, show (16 * q + j) % 4 = j % 4 by omega]

/-- Within a quartile the four amounts of its row repeat four times. -/
theorem map_sMd5_quartile (q : Nat) : (List.range' (16 * q) 16).map sMd5 =
    (List.replicate 4 ((List.range 4).map fun c => (sMd5Rows.getD q []).getD c 0)).flatten := by
  rw [List.range'_eq_map_range, List.map_map]
  exact List.map_congr_left fun j hj => sMd5_quartile q (List.mem_range.mp hj)

/-- Settles O45: the formula of each quartile is computed over its sixteen rounds, and the row of amounts of each
quartile is repeated four times. -/
theorem md5IndexAndRotationTables : Obligations.Md5IndexAndRotationTables := by
  refine ⟨?index, ?rotation⟩
  case index =>
    rw [map_gMd5_range_64]
    rfl
  case rotation =>
    rw [range_64_eq_quartiles, List.map_append, List.map_append, List.map_append, map_sMd5_quartile 0,
      map_sMd5_quartile 1, map_sMd5_quartile 2, map_sMd5_quartile 3]
    rfl

end Sys2Proof.Machine

/-! PROOFS. The statements of 46_facade_hex.md: NEW on every selector (R292), BYTE and FINISH without an engine (R293,
R294), and the hex encoder with its round trip (R300 to R302). -/

namespace Sys2Proof.Machine

/-! ### The hex digits (46_facade_hex.md R301) -/

theorem toNat_hexDigit_of_le_nine {n : BitVec 4} (h : n.toNat ≤ 9) : (hexDigit n).toNat = 0x30 + n.toNat := by
  have hdigit : hexDigit n = 0x30#8 + n.setWidth 8 := if_pos h
  rw [hdigit]
  bv_omega

theorem toNat_hexDigit_of_ten_le {n : BitVec 4} (h : 10 ≤ n.toNat) :
    (hexDigit n).toNat = 0x61 + (n.toNat - 10) := by
  have hletter : hexDigit n = 0x61#8 + (n.setWidth 8 - 10#8) := if_neg (by omega)
  rw [hletter]
  bv_omega

/-- Settles O40, one range of digits after the other. -/
theorem hexDigitsAreLowercaseAscii : Obligations.HexDigitsAreLowercaseAscii :=
  fun _ => ⟨toNat_hexDigit_of_le_nine, toNat_hexDigit_of_ten_le⟩

theorem hexValue_hexDigit : ∀ n : BitVec 4, hexValue (hexDigit n) = some n := by decide

/-! ### The hex string of a byte sequence (46_facade_hex.md R300, R302) -/

theorem length_hexEnc (d : List Byte) : (hexEnc d).length = 2 * d.length := by
  induction d with
  | nil => rfl
  | cons b d ih =>
    simp only [hexEnc_cons, List.length_cons, ih]
    omega

theorem hexDec_hexDigit_cons (x y : BitVec 4) (rest : List Byte) :
    hexDec (hexDigit x :: hexDigit y :: rest) = (hexDec rest).map ((x ++ y) :: ·) := by
  rw [hexDec, hexValue_hexDigit, hexValue_hexDigit]
  cases hexDec rest <;> rfl

theorem hexDec_hexEnc (d : List Byte) : hexDec (hexEnc d) = some d := by
  induction d with
  | nil => rfl
  | cons b d ih =>
    rw [hexEnc_cons, hexDec_hexDigit_cons, ih, BitVec.extractLsb'_append_extractLsb', Option.map_some]

/-- The two characters of byte `i`, at the places of the string that are its own. -/
theorem getElem?_hexEnc {d : List Byte} {i : Nat} (h : i < d.length) :
    (hexEnc d)[2 * i]? = some (hexDigit (d[i].extractLsb' 4 4)) ∧
    (hexEnc d)[2 * i + 1]? = some (hexDigit (d[i].extractLsb' 0 4)) := by
  induction d generalizing i with
  | nil => exact absurd h (Nat.not_lt_zero i)
  | cons b d ih =>
    cases i with
    | zero => exact ⟨rfl, rfl⟩
    | succ i => exact ih (Nat.lt_of_succ_lt_succ h)

/-- Settles O39: the string grows by two characters per byte, and each pair reads back as its byte. -/
theorem hexEncodingIsInvertible : Obligations.HexEncodingIsInvertible :=
  fun d => ⟨length_hexEnc d, hexDec_hexEnc d, fun _ h => getElem?_hexEnc h⟩

/-! ### FINISH in a state of the invariant (46_facade_hex.md R294, R302) -/

/-- FINAL gives as many bytes as the selector stands for. For the two engines with a variant bit, the invariant ties
that bit to `SEL` (10_state.md R24). -/
theorem length_digestEngine {s : State} (hs : s.Inv) {e : Engine} (he : engineOf s.sel = some e) :
    (digestEngine e s).length = digestBytes s.sel := by
  obtain ⟨hcrc8, hcrc16, hcrc32, hmd5, hsha1, hs256, hs512⟩ := engineOf_eq_some_iff s.sel
  obtain ⟨hsha256, hsha224⟩ := hs.var256
  obtain ⟨hsha512, hsha384⟩ := hs.var512
  cases e with
  | crc8 => rw [hcrc8.mp he]; rfl
  | crc16 => rw [hcrc16.mp he]; rfl
  | crc32 => rw [hcrc32.mp he]; rfl
  | md5 => rw [hmd5.mp he]; rfl
  | sha1 => rw [hsha1.mp he]; rfl
  | s256 =>
    have hlen : (digestEngine .s256 s).length = 4 * s256OutWords s.s256Var := length_s256Out ..
    rcases hs256.mp he with hsel | hsel
    · rw [hlen, hsha256 hsel, hsel]; rfl
    · rw [hlen, hsha224 hsel, hsel]; rfl
  | s512 =>
    have hlen : (digestEngine .s512 s).length = 8 * s512OutWords s.s512Var := length_s512Out ..
    rcases hs512.mp he with hsel | hsel
    · rw [hlen, hsha384 hsel, hsel]; rfl
    · rw [hlen, hsha512 hsel, hsel]; rfl

theorem exists_engineOf_of_supported {sel : BitVec 4} (h : supported sel) : ∃ e, engineOf sel = some e :=
  Option.ne_none_iff_exists'.mp fun hnone => (not_supported_iff sel).mpr hnone h

/-- FINISH tells the host the digest FINAL gives: in the response, in `DLEN` and in `DOUT`. -/
theorem exists_finish_eq_next {s : State} {e : Engine} (he : engineOf s.sel = some e)
    (hdout : s.dout.wf Config.doutBytes) :
    ∃ t, exec .finish s = .next t ∧ lastResponse t = some ⟨.ok, hexEnc (digestEngine e s)⟩ ∧
      t.dlen.toNat = (digestEngine e s).length ∧ (hostView t).dout = digestEngine e s := by
  have hle := length_digestEngine_le e s
  have hdlen : (BitVec.ofNat 7 (digestEngine e s).length).toNat = (digestEngine e s).length :=
    Nat.mod_eq_of_lt (Nat.lt_of_le_of_lt hle (by decide))
  refine ⟨_, exec_finish_of_engineOf he, lastResponse_of_responses (completeCommand_responses _ _), ?dlen, ?dout⟩
  case dlen => simpa using hdlen
  case dout =>
    simp only [hostView, completeCommand_dlen, completeCommand_dout, resetEngine_dlen, resetEngine_dout,
      storeDigest_dlen, storeDigest_dout, finalEngine_dout, hdlen]
    exact Memory.readBytes_writeBytes hdout hle

/-- Settles O21: FINISH shows one digest three times (`exists_finish_eq_next`), its length is the selector's, and the
hex string decodes to it. -/
theorem finishPayloadDecodesToDout : Obligations.FinishPayloadDecodesToDout := by
  refine ⟨fun s hs hsel => ?_, rfl⟩
  obtain ⟨e, he⟩ := exists_engineOf_of_supported hsel
  have hlen := length_digestEngine hs he
  obtain ⟨t, hexec, hlast, hdlen, hdout⟩ := exists_finish_eq_next he hs.doutWf
  refine ⟨t, _, hexec, hlast, ?length, hdlen.trans hlen, ?decoded⟩
  case length => rw [length_hexEnc, hlen]
  case decoded => rw [hexDec_hexEnc, hdout]

/-! ### NEW with a selector that names an engine (46_facade_hex.md R292)

The whole next state is a fixed sequence of register updates; which ones, the selector decides. -/

theorem exec_new_of_engineOf {i : Instr} {sel : BitVec 4} {e : Engine} (hi : newSel? i = some sel)
    (he : engineOf sel = some e) (s : State) :
    exec i s = .next (completeCommand (resetEngine e (((s.setSel sel).setS256Var
      ((s256VarOf sel).getD s.s256Var)).setS512Var ((s512VarOf sel).getD s.s512Var))) []) := by
  rcases newCommand_cases sel s with ⟨hnone, _⟩ | ⟨e', he', hnew⟩
  · cases hnone.symm.trans he
  · obtain rfl : e' = e := Option.some.inj (he'.symm.trans he)
    rw [exec_of_newSel hi, hnew, setVariant_eq]
    rfl

/-- Settles O12: `exec_new_of_engineOf` with each CRC engine and the reset value of its register. -/
theorem newOnACrcEngine : Obligations.NewOnACrcEngine := by
  intro s
  refine ⟨?crc8, ?crc16, ?crc32⟩
  case crc8 => exact exec_new_of_engineOf rfl (engineOf_crc8 rfl) s
  case crc16 => exact exec_new_of_engineOf rfl (engineOf_crc16 rfl) s
  case crc32 => exact exec_new_of_engineOf rfl (engineOf_crc32 rfl) s

/-- Settles O13: `exec_new_of_engineOf` with the two engines that have no variant. -/
theorem newOnMd5AndSha1 : Obligations.NewOnMd5AndSha1 := by
  intro s
  refine ⟨?md5, ?sha1⟩
  case md5 => exact exec_new_of_engineOf rfl (engineOf_md5 rfl) s
  case sha1 => exact exec_new_of_engineOf rfl (engineOf_sha1 rfl) s

/-- Settles O14: `exec_new_of_engineOf` with each variant of the two SHA-2 engines. -/
theorem newOnSha2Engines : Obligations.NewOnSha2Engines := by
  intro s
  refine ⟨?sha256, ?sha224, ?sha512, ?sha384⟩
  case sha256 => exact exec_new_of_engineOf rfl (engineOf_s256 (.inl rfl)) s
  case sha224 => exact exec_new_of_engineOf rfl (engineOf_s256 (.inr rfl)) s
  case sha512 => exact exec_new_of_engineOf rfl (engineOf_s512 (.inr rfl)) s
  case sha384 => exact exec_new_of_engineOf rfl (engineOf_s512 (.inl rfl)) s

/-! ### Commands without an engine (46_facade_hex.md R292 to R294, 60_exceptions.md R321, R322) -/

/-- Taking the exception, as the update of the state it is (60_exceptions.md R322). -/
theorem raiseUnsupported_eq (s : State) : raiseUnsupported s =
    { s with err := 1, responses := s.responses ++ [⟨.unsupportedAlgorithm, []⟩] } := rfl

theorem exec_new_of_nine_le {i : Instr} {sel : BitVec 4} (hi : newSel? i = some sel) (h : 9 ≤ sel.toNat) (s : State) :
    exec i s = .next { s with
      sel := sel, err := 1, responses := s.responses ++ [⟨.unsupportedAlgorithm, []⟩] } := by
  have hnone := (engineOf_eq_none_iff sel).mpr h
  rcases newCommand_cases sel s with ⟨_, hnew⟩ | ⟨e, he, _⟩
  · rw [exec_of_newSel hi, hnew, raiseUnsupported_eq]
    rfl
  · cases hnone.symm.trans he

/-- Settles O15: the three rows of the opcode map for such a selector, which is 9 or more in each. -/
theorem newWithUnsupportedSelectorRaises : Obligations.NewWithUnsupportedSelectorRaises := by
  refine fun s => ⟨?nine, fun sel hsel => ?tenOrEleven, fun sel hsel => ?twelveOrMore⟩
  case nine => exact exec_new_of_nine_le rfl (by decide) s
  case tenOrEleven =>
    have hle : 9 ≤ sel.toNat := by rcases hsel with rfl | rfl <;> decide
    exact exec_new_of_nine_le rfl hle s
  case twelveOrMore => exact exec_new_of_nine_le rfl (by omega) s

/-- Settles O16: with no engine named, BYTE and FINISH are left with the raising case of `byteCommand_cases` and
`finishCommand_cases`. -/
theorem messageCommandsRaiseWithoutEngine : Obligations.MessageCommandsRaiseWithoutEngine := by
  intro s imm hsel
  have hnone := (engineOf_eq_none_iff s.sel).mpr hsel
  refine ⟨?byte, ?finish⟩
  case byte =>
    rcases byteCommand_cases imm s with ⟨_, hs⟩ | ⟨e, he, _⟩
    · exact congrArg Host.Outcome.next (hs.trans (raiseUnsupported_eq s))
    · cases hnone.symm.trans he
  case finish =>
    rcases finishCommand_cases s with ⟨_, hs⟩ | ⟨e, he, _⟩
    · exact congrArg Host.Outcome.next (hs.trans (raiseUnsupported_eq s))
    · cases hnone.symm.trans he

end Sys2Proof.Machine

/-! PROOFS. The statements of 60_exceptions.md: sequences of commands that never raise (R325). -/

namespace Sys2Proof.Machine

/-! ### Runs without an exception

While `SEL` names an engine no BYTE or FINISH raises, and every supported NEW leaves it naming one: `SEL` is what the
induction over a sequence has to carry along with the responses. -/

/-- On the way from `s` to `t` came `n` responses, all of status OK, and `SEL` of `t` names an engine. -/
def AnsweredOk (n : Nat) (s t : State) : Prop :=
  supported t.sel ∧ ∃ rs, t.responses = s.responses ++ rs ∧ rs.length = n ∧ ∀ r ∈ rs, r.status = .ok

theorem AnsweredOk.refl {s : State} (h : supported s.sel) : AnsweredOk 0 s s :=
  ⟨h, [], by simp⟩

theorem AnsweredOk.trans {m n : Nat} {s t u : State} (hst : AnsweredOk m s t) (htu : AnsweredOk n t u) :
    AnsweredOk (m + n) s u := by
  obtain ⟨_, rs, hrs, hlen, hok⟩ := hst
  obtain ⟨hu, rs', hrs', hlen', hok'⟩ := htu
  refine ⟨hu, rs ++ rs', ?responses, ?length, List.forall_mem_append.mpr ⟨hok, hok'⟩⟩
  case responses => rw [hrs', hrs, List.append_assoc]
  case length => rw [List.length_append, hlen, hlen']

theorem answeredOk_completeCommand {s t : State} (ht : supported t.sel) (hr : t.responses = s.responses)
    (p : List Byte) : AnsweredOk 1 s (completeCommand t p) :=
  ⟨ht, [⟨.ok, p⟩], by simp [hr]⟩

theorem answeredOk_newCommand {sel : BitVec 4} (h : supported sel) (s : State) :
    AnsweredOk 1 s (newCommand sel s) := by
  rcases newCommand_cases sel s with ⟨hnone, _⟩ | ⟨e, _, hs⟩
  · exact absurd h ((not_supported_iff sel).mpr hnone)
  · rw [hs]
    exact answeredOk_completeCommand (by simpa using h) (by simp) _

theorem answeredOk_byteCommand {s : State} (h : supported s.sel) (b : Byte) : AnsweredOk 1 s (byteCommand b s) := by
  rcases byteCommand_cases b s with ⟨hnone, _⟩ | ⟨e, _, hs⟩
  · exact absurd h ((not_supported_iff s.sel).mpr hnone)
  · rw [hs]
    exact answeredOk_completeCommand (by simpa using h) (by simp) _

theorem answeredOk_finishCommand {s : State} (h : supported s.sel) : AnsweredOk 1 s (finishCommand s) := by
  rcases finishCommand_cases s with ⟨hnone, _⟩ | ⟨e, _, hs⟩
  · exact absurd h ((not_supported_iff s.sel).mpr hnone)
  · rw [hs]
    exact answeredOk_completeCommand (by simpa using h) (by simp) _

/-- The selector of a NEW decides whether it is one of the commands of 60_exceptions.md R325. -/
theorem isSupported_iff_of_newSel {i : Instr} {sel : BitVec 4} (h : newSel? i = some sel) :
    i.isSupported ↔ supported sel := by
  cases i <;> cases h <;> simp [Instr.isSupported]

theorem exists_exec_answeredOk {i : Instr} {s : State} (hs : supported s.sel) (hi : i.isSupported) :
    ∃ t, exec i s = .next t ∧ AnsweredOk 1 s t := by
  rcases exec_cases i s with ⟨sel, hnew, hexec⟩ | ⟨b, _, hexec⟩ | ⟨_, hexec⟩
  · exact ⟨_, hexec, answeredOk_newCommand ((isSupported_iff_of_newSel hnew).mp hi) s⟩
  · exact ⟨_, hexec, answeredOk_byteCommand hs b⟩
  · exact ⟨_, hexec, answeredOk_finishCommand hs⟩

theorem exists_runCommands_answeredOk {s : State} (is : List Instr) (hs : supported s.sel)
    (his : ∀ i ∈ is, i.isSupported) : ∃ t, runCommands is s = .next t ∧ AnsweredOk is.length s t := by
  induction is generalizing s with
  | nil => exact ⟨s, rfl, .refl hs⟩
  | cons i is ih =>
    obtain ⟨hi, his⟩ := List.forall_mem_cons.mp his
    obtain ⟨t, hexec, hst⟩ := exists_exec_answeredOk hs hi
    obtain ⟨u, hrun, htu⟩ := ih hst.1 his
    refine ⟨u, (runCommands_cons_of_exec is hexec).trans hrun, ?_⟩
    rw [List.length_cons, Nat.add_comm]
    exact hst.trans htu

/-- Settles O30: the first NEW leaves a supported selector whatever the state before it, and the rest of the sequence
keeps one (`exists_runCommands_answeredOk`). -/
theorem supportedSequencesNeverRaise : Obligations.SupportedSequencesNeverRaise := by
  intro s sel is hsel his
  have hnew := answeredOk_newCommand hsel s
  obtain ⟨t, hrun, ht⟩ := exists_runCommands_answeredOk is hnew.1 his
  obtain ⟨_, rs, hrs, hlen, hok⟩ := hnew.trans ht
  exact ⟨t, rs, (runCommands_cons_of_exec is (exec_newInstr sel s)).trans hrun, hrs, by omega, hok⟩

end Sys2Proof.Machine

/-! PROOFS. The statements of 70_reset_and_hazards.md: hardware reset (R350), a second FINISH (R353) and an ignored error
(R356). -/

namespace Sys2Proof.Machine

-- The linters find nothing below. With them off, the compile of the whole text runs into the memory limit less often: it
-- has fewer threads waiting at once, and each of them reserves address space.
set_option linter.all false

/-! ### A second FINISH (70_reset_and_hazards.md R353) -/

theorem s256VarOf_eq_some_iff : ∀ (sel : BitVec 4) (v : BitVec 1),
    s256VarOf sel = some v ↔ (sel = 0 ∧ v = 0) ∨ (sel = 6 ∧ v = 1) := by decide

theorem s512VarOf_eq_some_iff : ∀ (sel : BitVec 4) (v : BitVec 1),
    s512VarOf sel = some v ↔ (sel = 8 ∧ v = 0) ∨ (sel = 7 ∧ v = 1) := by decide

/-- The variant bit of SHA-224/256 is already the one NEW of this selector would write (10_state.md R24). -/
theorem State.Inv.s256Var_eq {s : State} (h : s.Inv) {v : BitVec 1} (hv : s256VarOf s.sel = some v) : s.s256Var = v := by
  obtain ⟨hsha256, hsha224⟩ := h.var256
  rcases (s256VarOf_eq_some_iff _ _).mp hv with ⟨hsel, rfl⟩ | ⟨hsel, rfl⟩
  · exact hsha256 hsel
  · exact hsha224 hsel

/-- The variant bit of SHA-384/512 is already the one NEW of this selector would write (10_state.md R24). -/
theorem State.Inv.s512Var_eq {s : State} (h : s.Inv) {v : BitVec 1} (hv : s512VarOf s.sel = some v) : s.s512Var = v := by
  obtain ⟨hsha512, hsha384⟩ := h.var512
  rcases (s512VarOf_eq_some_iff _ _).mp hv with ⟨hsel, rfl⟩ | ⟨hsel, rfl⟩
  · exact hsha512 hsel
  · exact hsha384 hsel

/-- FINAL keeps the block buffers in canonical form, whichever engine it runs on. -/
theorem wf_finalEngine_bufs (e : Engine) {s : State} (hs : s.Inv) :
    (finalEngine e s).md5.buf.wf (2 ^ Config.cursorWidth32) ∧
    (finalEngine e s).sha1.buf.wf (2 ^ Config.cursorWidth32) ∧
    (finalEngine e s).s256.buf.wf (2 ^ Config.cursorWidth32) ∧
    (finalEngine e s).s512.buf.wf (2 ^ Config.cursorWidth64) := by
  have hmd5 := hs.md5.bufWf
  have hsha1 := hs.sha1.bufWf
  have hs256 := hs.s256.bufWf
  have hs512 := hs.s512.bufWf
  cases e with
  | crc8 | crc16 | crc32 => exact ⟨hmd5, hsha1, hs256, hs512⟩
  | md5 => exact ⟨wf_mdFinal_buf md5Shell_fits hmd5, hsha1, hs256, hs512⟩
  | sha1 => exact ⟨hmd5, wf_mdFinal_buf sha1Shell_fits hsha1, hs256, hs512⟩
  | s256 => exact ⟨hmd5, hsha1, wf_mdFinal_buf (s256Shell_fits _) hs256, hs512⟩
  | s512 => exact ⟨hmd5, hsha1, hs256, wf_mdFinal_buf (s512Shell_fits _) hs512⟩

/-- FINISH always resets its engine: it leaves the state in which the empty message has been absorbed under the same
selector. -/
theorem exists_finish_inMessage_nil {s : State} (hs : s.Inv) {e : Engine} (he : engineOf s.sel = some e) :
    ∃ t, exec .finish s = .next t ∧ InMessage s.sel e [] t := by
  obtain ⟨hmd5, hsha1, hs256, hs512⟩ := wf_finalEngine_bufs e hs
  have hle := length_digestEngine_le e s
  exact ⟨_, exec_finish_of_engineOf he, {
    selEq := by simp
    engine := he
    absorbed := (hasAbsorbed_completeCommand _).mpr (hasAbsorbed_resetEngine e hmd5 hsha1 hs256 hs512)
    table := by simpa using hs.table
    var256 := fun v hv => by simpa using hs.s256Var_eq hv
    var512 := fun v hv => by simpa using hs.s512Var_eq hv
    doutWf := by simpa using Memory.wf_writeBytes (digestEngine e s) hs.doutWf (by omega) }⟩

/-- Settles O22: the first FINISH leaves the empty message absorbed (`exists_finish_inMessage_nil`), and the second gives
the digest of what has been absorbed (`InMessage.finish`). -/
theorem secondFinishGivesTheEmptyDigest : Obligations.SecondFinishGivesTheEmptyDigest := by
  intro s hs hsel
  obtain ⟨e, he⟩ := exists_engineOf_of_supported hsel
  obtain ⟨t, hfirst, ht⟩ := exists_finish_inMessage_nil hs he
  obtain ⟨u, hsecond, hlast, _⟩ := ht.finish
  exact ⟨t, u, hfirst, hsecond, hlast⟩

/-! ### An ignored error (70_reset_and_hazards.md R356) -/

/-- With no engine named, every command but NEW takes the exception (60_exceptions.md R321). -/
theorem exec_eq_raiseUnsupported {i : Instr} (hi : i.isNew = false) {s : State} (h : 9 ≤ s.sel.toNat) :
    exec i s = .next (raiseUnsupported s) := by
  cases i with
  | byteImm b => exact (messageCommandsRaiseWithoutEngine s b h).1
  | finish => exact (messageCommandsRaiseWithoutEngine s 0 h).2
  | _ => cases hi

/-- Taking the exception leaves `SEL` alone, so it is taken once per command. -/
theorem runCommands_eq_raiseUnsupported_iterate {is : List Instr} (his : ∀ i ∈ is, i.isNew = false) {s : State}
    (h : 9 ≤ s.sel.toNat) : runCommands is s = .next (raiseUnsupported^[is.length] s) := by
  induction is generalizing s with
  | nil => rfl
  | cons i is ih =>
    obtain ⟨hi, his⟩ := List.forall_mem_cons.mp his
    rw [runCommands_cons_of_exec is (exec_eq_raiseUnsupported hi h)]
    exact ih his h

/-- Taking the exception again adds a response and nothing else. -/
theorem raiseUnsupported_iterate_succ (n : Nat) (s : State) : raiseUnsupported^[n + 1] s =
    { s with err := 1, responses := s.responses ++ List.replicate (n + 1) ⟨.unsupportedAlgorithm, []⟩ } := by
  induction n with
  | zero => exact raiseUnsupported_eq s
  | succ n ih =>
    rw [Function.iterate_succ_apply', ih, raiseUnsupported_eq, List.replicate_succ' (n := n + 1),
      List.append_assoc]

/-- Settles O31: NEW latches the selector and raises, so the exception is taken once for it and once for each command that
follows. -/
theorem ignoredErrorKeepsRaising : Obligations.IgnoredErrorKeepsRaising := by
  intro s sel is hsel his
  have hnine : 9 ≤ sel.toNat := by omega
  have hnew : exec (newInstr sel) s = .next (raiseUnsupported (s.setSel sel)) :=
    exec_new_of_nine_le (newSel?_newInstr sel) hnine s
  rw [runCommands_cons_of_exec is hnew, runCommands_eq_raiseUnsupported_iterate his hnine,
    ← Function.iterate_succ_apply, raiseUnsupported_iterate_succ]
  rfl

/-! ### Hardware reset (70_reset_and_hazards.md R350) -/

/-- Settles O8: the initial constants stand in `State.reset`, and the table is made entry by entry (40_crc.md R139). -/
theorem resetLeavesTheStatedValues : Obligations.ResetLeavesTheStatedValues := by
  refine ⟨rfl, rfl, rfl, rfl, rfl, rfl, rfl, rfl, rfl, rfl, rfl, rfl, rfl, rfl, rfl, rfl, rfl, rfl, rfl, rfl, ?table⟩
  case table => exact getElem_crc32Table

theorem step_of_hardwareReset_pending {s : State} {rest : List HostMove} (h : s.pending = .hardwareReset :: rest) :
    step s = .next (State.reset.setPending rest) := by
  rw [step_of_pending_cons h, runMove, hardwareReset_eq, State.setPending_pending]

/-- Settles O9: the reset state with the other moves still pending, so its registers hold the values of O8. -/
theorem hardwareResetMoveResets : Obligations.HardwareResetMoveResets :=
  fun _ rest h => ⟨State.reset.setPending rest, step_of_hardwareReset_pending h, rfl, rfl, resetLeavesTheStatedValues⟩

/-- Settles O33: no counter has counted, nothing is listed in a byte space, `SEL` names no engine and no command has
answered. -/
theorem resetMeetsTheInvariant : Obligations.ResetMeetsTheInvariant :=
  inv_reset

end Sys2Proof.Machine

/-! PROOFS. What a command writes (10_state.md): the status of every command (R22), the façade's registers (R21, R23, R24),
the table (R32), and the record of no engine but the one selected (R36). -/

namespace Sys2Proof.Machine

/-! ### The selector a command works under (R21; 46_facade_hex.md R291)

A NEW latches its own selector, BYTE and FINISH keep the one in `SEL`; whether the command raises, and which engine it
works on, that selector decides. -/

/-- What `SEL` holds once the command has run. -/
def selAfter (i : Instr) (s : State) : BitVec 4 := (newSel? i).getD s.sel

theorem selAfter_of_newSel {i : Instr} {sel : BitVec 4} (h : newSel? i = some sel) (s : State) : selAfter i s = sel := by
  rw [selAfter, h, Option.getD_some]

@[simp] theorem selAfter_byteImm (b : Byte) (s : State) : selAfter (.byteImm b) s = s.sel := rfl

@[simp] theorem selAfter_finish (s : State) : selAfter .finish s = s.sel := rfl

theorem isNew_eq_isSome_newSel (i : Instr) : i.isNew = (newSel? i).isSome := by
  cases i <;> rfl

/-! ### What each command does, its selector naming an engine or not -/

theorem exec_of_engineOf_eq_none {i : Instr} {s : State} (h : engineOf (selAfter i s) = none) :
    exec i s = .next (raiseUnsupported (s.setSel (selAfter i s))) := by
  have hnine : 9 ≤ (selAfter i s).toNat := (engineOf_eq_none_iff _).mp h
  cases hi : newSel? i with
  | some sel =>
    rw [selAfter_of_newSel hi] at hnine ⊢
    exact exec_new_of_nine_le hi hnine s
  | none =>
    have hsel : selAfter i s = s.sel := by rw [selAfter, hi, Option.getD_none]
    rw [hsel] at hnine ⊢
    exact exec_eq_raiseUnsupported (by rw [isNew_eq_isSome_newSel, hi, Option.isSome_none]) hnine

theorem exec_new_eq_resetEngine {i : Instr} {sel : BitVec 4} {e : Engine} (hi : newSel? i = some sel)
    (he : engineOf sel = some e) (s : State) :
    exec i s = .next (completeCommand (resetEngine e (setVariant sel (s.setSel sel))) []) := by
  rw [exec_new_of_engineOf hi he, setVariant_eq]
  rfl

/-- All a command can do (46_facade_hex.md R292 to R294): raise, with no engine named, or work on the engine named and
complete. -/
theorem exec_next_cases {i : Instr} {s t : State} (h : exec i s = .next t) :
    (engineOf (selAfter i s) = none ∧ t = raiseUnsupported (s.setSel (selAfter i s))) ∨
    ∃ e, engineOf (selAfter i s) = some e ∧
      ((∃ sel, newSel? i = some sel ∧ t = completeCommand (resetEngine e (setVariant sel (s.setSel sel))) []) ∨
       (∃ b, i = .byteImm b ∧ t = completeCommand (absorbEngine e b s) []) ∨
       (i = .finish ∧ t = completeCommand (resetEngine e (storeDigest (digestEngine e s) (finalEngine e s)))
         (hexEnc (digestEngine e s)))) := by
  have hnext {u : State} (hu : exec i s = .next u) : t = u := by injection h.symm.trans hu
  cases he : engineOf (selAfter i s) with
  | none => exact .inl ⟨rfl, hnext (exec_of_engineOf_eq_none he)⟩
  | some e =>
    refine .inr ⟨e, rfl, ?_⟩
    rcases exec_cases i s with ⟨sel, hi, _⟩ | ⟨b, rfl, _⟩ | ⟨rfl, _⟩
    · rw [selAfter_of_newSel hi] at he
      exact .inl ⟨sel, hi, hnext (exec_new_eq_resetEngine hi he s)⟩
    · exact .inr (.inl ⟨b, rfl, hnext (exec_byteImm_of_engineOf he b)⟩)
    · exact .inr (.inr ⟨rfl, hnext (exec_finish_of_engineOf he)⟩)

theorem sel_of_exec {i : Instr} {s t : State} (h : exec i s = .next t) : t.sel = selAfter i s := by
  rcases exec_next_cases h with ⟨_, rfl⟩ | ⟨e, _, ⟨sel, hi, rfl⟩ | ⟨b, rfl, rfl⟩ | ⟨rfl, rfl⟩⟩
  · rfl
  · simp [selAfter_of_newSel hi]
  · simp
  · simp

/-! ### `ERR` is written, not read (R22) -/

theorem newCommand_setErr (sel : BitVec 4) (s : State) (v : BitVec 1) :
    newCommand sel (s.setErr v) = newCommand sel s := by
  unfold newCommand
  cases engineOf sel with
  | none => rfl
  | some e => simp only [setVariant_eq]; cases e <;> rfl

theorem byteCommand_setErr (b : Byte) (s : State) (v : BitVec 1) :
    byteCommand b (s.setErr v) = byteCommand b s := by
  unfold byteCommand
  rw [State.setErr_sel]
  cases engineOf s.sel with
  | none => rfl
  | some e => cases e <;> rfl

theorem digestEngine_setErr (e : Engine) (s : State) (v : BitVec 1) :
    digestEngine e (s.setErr v) = digestEngine e s := by
  cases e <;> simp only [digestEngine, State.setErr_crc8, State.setErr_crc16, State.setErr_crc32, State.setErr_md5,
    State.setErr_sha1, State.setErr_s256, State.setErr_s512, State.setErr_s256Var, State.setErr_s512Var]

theorem finalEngine_setErr (e : Engine) (s : State) (v : BitVec 1) :
    finalEngine e (s.setErr v) = (finalEngine e s).setErr v := by
  cases e <;> simp only [finalEngine, State.setErr_md5, State.setErr_sha1, State.setErr_s256, State.setErr_s512,
    State.setErr_s256Var, State.setErr_s512Var] <;> rfl

theorem finishCommand_setErr (s : State) (v : BitVec 1) : finishCommand (s.setErr v) = finishCommand s := by
  unfold finishCommand
  rw [State.setErr_sel]
  cases engineOf s.sel with
  | none => rfl
  | some e =>
    simp only [digestEngine_setErr, finalEngine_setErr]
    cases e <;> rfl

theorem exec_setErr (i : Instr) (s : State) (v : BitVec 1) : exec i (s.setErr v) = exec i s := by
  rcases exec_cases i s with ⟨sel, hi, hs⟩ | ⟨b, rfl, hs⟩ | ⟨rfl, hs⟩
  · rw [exec_of_newSel hi, exec_of_newSel hi, newCommand_setErr]
  · rw [hs, ← byteCommand_setErr b s v]
    rfl
  · rw [hs, ← finishCommand_setErr s v]
    rfl

/-- The one response of a command (30_encoding.md R94), and that its status is in `ERR`. -/
theorem exists_response_of_exec {i : Instr} {s t : State} (h : exec i s = .next t) :
    ∃ r, t.responses = s.responses ++ [r] ∧ t.err = statusCode r.status ∧
      (r.status = .unsupportedAlgorithm ↔ ¬ supported t.sel) ∧ (r.payload ≠ [] → i = .finish ∧ r.status = .ok) := by
  rw [sel_of_exec h, not_supported_iff]
  rcases exec_next_cases h with ⟨hnone, rfl⟩ | ⟨e, he, hwork⟩
  · exact ⟨⟨.unsupportedAlgorithm, []⟩, rfl, rfl, iff_of_true rfl hnone, fun hp => absurd rfl hp⟩
  · have hiff : Status.ok = .unsupportedAlgorithm ↔ engineOf (selAfter i s) = none :=
      iff_of_false nofun (by rw [he]; exact nofun)
    rcases hwork with ⟨sel, _, rfl⟩ | ⟨b, _, rfl⟩ | ⟨hi, rfl⟩
    · exact ⟨⟨.ok, []⟩, by simp, rfl, hiff, fun hp => absurd rfl hp⟩
    · exact ⟨⟨.ok, []⟩, by simp, rfl, hiff, fun hp => absurd rfl hp⟩
    · exact ⟨⟨.ok, hexEnc (digestEngine e s)⟩, by simp, rfl, hiff, fun _ => ⟨hi, rfl⟩⟩

/-- Settles O27: the response of each case of `exec_next_cases`, and no case reads `ERR`. -/
theorem everyCommandAnswersOnce : Obligations.EveryCommandAnswersOnce := by
  refine ⟨rfl, fun i s => ?_⟩
  obtain ⟨t, ht⟩ := exists_exec_eq_next i s
  obtain ⟨r, hresponses, herr, hstatus, hpayload⟩ := exists_response_of_exec ht
  exact ⟨t, r, ht, hresponses, herr, ⟨rfl, rfl⟩, hstatus, hpayload, exec_setErr i s⟩

/-! ### The façade's registers (R21, R23, R24, R32) -/

theorem selAfter_eq_ite (i : Instr) (s : State) :
    selAfter i s = if i.isNew then BitVec.ofNat 4 ((encode i).toNat / 256) else s.sel := by
  rw [isNew_eq_isSome_newSel]
  cases hi : newSel? i with
  | none => rw [selAfter, hi]; rfl
  | some sel =>
    have hfield : BitVec.ofNat 4 ((encode i).toNat / 256) = sel := by
      apply BitVec.eq_of_toNat_eq
      have hone : (0x1 : BitVec 4).toNat = 1 := rfl
      have hzero : (0x00 : Byte).toNat = 0 := rfl
      rw [encode_of_newSel hi, toNat_packWord, BitVec.toNat_ofNat, hone, hzero]
      omega
    rw [selAfter_of_newSel hi, hfield]
    rfl

theorem crc32T_of_exec {i : Instr} {s t : State} (h : exec i s = .next t) : t.crc32T = s.crc32T := by
  rcases exec_next_cases h with ⟨_, rfl⟩ | ⟨e, _, ⟨sel, _, rfl⟩ | ⟨b, _, rfl⟩ | ⟨_, rfl⟩⟩ <;> simp

theorem dout_dlen_of_exec {i : Instr} {s t : State} (h : exec i s = .next t) (hi : i ≠ .finish) :
    t.dout = s.dout ∧ t.dlen = s.dlen := by
  rcases exec_next_cases h with ⟨_, rfl⟩ | ⟨e, _, ⟨sel, _, rfl⟩ | ⟨b, _, rfl⟩ | ⟨hfinish, _⟩⟩
  · exact ⟨rfl, rfl⟩
  · simp
  · simp
  · exact absurd hfinish hi

/-- The variant bits are those NEW of the selector writes, or as they were (R24). -/
theorem variants_of_exec {i : Instr} {s t : State} (h : exec i s = .next t) :
    (t.s256Var = s.s256Var ∧ t.s512Var = s.s512Var) ∨
    (newSel? i = some t.sel ∧ t.s256Var = (s256VarOf t.sel).getD s.s256Var ∧
      t.s512Var = (s512VarOf t.sel).getD s.s512Var) := by
  rcases exec_next_cases h with ⟨_, rfl⟩ | ⟨e, _, ⟨sel, hi, rfl⟩ | ⟨b, _, rfl⟩ | ⟨_, rfl⟩⟩
  · exact .inl ⟨rfl, rfl⟩
  · exact .inr (by simp [hi, setVariant_s256Var, setVariant_s512Var])
  · exact .inl (by simp)
  · exact .inl (by simp)

theorem s256Var_ne_of_exec {i : Instr} {s t : State} (h : exec i s = .next t) (hne : t.s256Var ≠ s.s256Var) :
    i.isNew = true ∧ (t.sel = 0 ∨ t.sel = 6) := by
  rcases variants_of_exec h with ⟨hsame, _⟩ | ⟨hnew, hvar, _⟩
  · exact absurd hsame hne
  · refine ⟨by rw [isNew_eq_isSome_newSel, hnew, Option.isSome_some], ?_⟩
    cases hv : s256VarOf t.sel with
    | none => rw [hv] at hvar; exact absurd hvar hne
    | some v => exact ((s256VarOf_eq_some_iff _ _).mp hv).imp And.left And.left

theorem s512Var_ne_of_exec {i : Instr} {s t : State} (h : exec i s = .next t) (hne : t.s512Var ≠ s.s512Var) :
    i.isNew = true ∧ (t.sel = 8 ∨ t.sel = 7) := by
  rcases variants_of_exec h with ⟨_, hsame⟩ | ⟨hnew, _, hvar⟩
  · exact absurd hsame hne
  · refine ⟨by rw [isNew_eq_isSome_newSel, hnew, Option.isSome_some], ?_⟩
    cases hv : s512VarOf t.sel with
    | none => rw [hv] at hvar; exact absurd hvar hne
    | some v => exact ((s512VarOf_eq_some_iff _ _).mp hv).imp And.left And.left

/-- Settles O28, register by register. -/
theorem selIsWrittenByNewAlone : Obligations.SelIsWrittenByNewAlone :=
  fun i s _ h => ⟨(sel_of_exec h).trans (selAfter_eq_ite i s), dout_dlen_of_exec h, s256Var_ne_of_exec h,
    s512Var_ne_of_exec h, crc32T_of_exec h, exec_pending_of_exec h⟩

/-! ### The records of the engines (R36) -/

/-- From `s` to `t` at most the record of the engine `o` was written, no record if `o` is none. -/
structure WritesOnly (o : Option Engine) (s t : State) : Prop where
  crc8 : o ≠ some .crc8 → t.crc8 = s.crc8
  crc16 : o ≠ some .crc16 → t.crc16 = s.crc16
  crc32 : o ≠ some .crc32 → t.crc32 = s.crc32
  md5 : o ≠ some .md5 → t.md5 = s.md5
  sha1 : o ≠ some .sha1 → t.sha1 = s.sha1
  s256 : o ≠ some .s256 → t.s256 = s.s256 ∧ t.s256Var = s.s256Var
  s512 : o ≠ some .s512 → t.s512 = s.s512 ∧ t.s512Var = s.s512Var

theorem WritesOnly.trans {o : Option Engine} {s t u : State} (hst : WritesOnly o s t) (htu : WritesOnly o t u) :
    WritesOnly o s u where
  crc8 h := (htu.crc8 h).trans (hst.crc8 h)
  crc16 h := (htu.crc16 h).trans (hst.crc16 h)
  crc32 h := (htu.crc32 h).trans (hst.crc32 h)
  md5 h := (htu.md5 h).trans (hst.md5 h)
  sha1 h := (htu.sha1 h).trans (hst.sha1 h)
  s256 h := ⟨(htu.s256 h).1.trans (hst.s256 h).1, (htu.s256 h).2.trans (hst.s256 h).2⟩
  s512 h := ⟨(htu.s512 h).1.trans (hst.s512 h).1, (htu.s512 h).2.trans (hst.s512 h).2⟩

theorem writesOnly_setSel (o : Option Engine) (s : State) (sel : BitVec 4) : WritesOnly o s (s.setSel sel) := by
  constructor <;> intro _ <;> simp

theorem writesOnly_storeDigest (o : Option Engine) (d : List Byte) (s : State) : WritesOnly o s (storeDigest d s) := by
  constructor <;> intro _ <;> simp

theorem writesOnly_answer (o : Option Engine) (s : State) (st : Status) (p : List Byte) :
    WritesOnly o s (s.answer st p) := by
  constructor <;> intro _ <;> simp

theorem writesOnly_resetEngine (e : Engine) (s : State) : WritesOnly (some e) s (resetEngine e s) := by
  constructor <;> intro h <;> simp_all [resetEngine_crc8, resetEngine_crc16, resetEngine_crc32, resetEngine_md5,
    resetEngine_sha1, resetEngine_s256, resetEngine_s512]

theorem writesOnly_absorbEngine (e : Engine) (b : Byte) (s : State) : WritesOnly (some e) s (absorbEngine e b s) := by
  constructor <;> intro h <;> simp_all [absorbEngine_crc8, absorbEngine_crc16, absorbEngine_crc32, absorbEngine_md5,
    absorbEngine_sha1, absorbEngine_s256, absorbEngine_s512]

theorem writesOnly_finalEngine (e : Engine) (s : State) : WritesOnly (some e) s (finalEngine e s) := by
  constructor <;> intro h <;> simp_all [finalEngine_md5, finalEngine_sha1, finalEngine_s256, finalEngine_s512]

theorem s256VarOf_eq_none : ∀ sel : BitVec 4, engineOf sel ≠ some .s256 → s256VarOf sel = none := by decide

theorem s512VarOf_eq_none : ∀ sel : BitVec 4, engineOf sel ≠ some .s512 → s512VarOf sel = none := by decide

theorem writesOnly_setVariant (sel : BitVec 4) (s : State) : WritesOnly (engineOf sel) s (setVariant sel s) := by
  constructor <;> intro h
  case s256 => simp [setVariant_s256Var, s256VarOf_eq_none sel h]
  case s512 => simp [setVariant_s512Var, s512VarOf_eq_none sel h]
  all_goals simp

/-- A command writes the record of the engine it works on, and it works on the one `SEL` then names. -/
theorem writesOnly_of_exec {i : Instr} {s t : State} (h : exec i s = .next t) : WritesOnly (engineOf t.sel) s t := by
  rw [sel_of_exec h]
  rcases exec_next_cases h with ⟨_, rfl⟩ | ⟨e, he, hwork⟩
  · exact (writesOnly_setSel _ s _).trans (writesOnly_answer _ _ _ _)
  · rw [he]
    rcases hwork with ⟨sel, hi, rfl⟩ | ⟨b, _, rfl⟩ | ⟨_, rfl⟩
    · rw [selAfter_of_newSel hi] at he
      exact (((writesOnly_setSel _ s sel).trans (he ▸ writesOnly_setVariant sel _)).trans
        (writesOnly_resetEngine e _)).trans (writesOnly_answer _ _ _ _)
    · exact (writesOnly_absorbEngine e b s).trans (writesOnly_answer _ _ _ _)
    · exact (((writesOnly_finalEngine e s).trans (writesOnly_storeDigest _ _ _)).trans
        (writesOnly_resetEngine e _)).trans (writesOnly_answer _ _ _ _)

theorem dout_dlen_of_exec_of_not_supported {i : Instr} {s t : State} (h : exec i s = .next t) (ht : ¬ supported t.sel) :
    t.dout = s.dout ∧ t.dlen = s.dlen := by
  rw [not_supported_iff, sel_of_exec h] at ht
  rcases exec_next_cases h with ⟨_, rfl⟩ | ⟨e, he, _⟩
  · exact ⟨rfl, rfl⟩
  · cases ht.symm.trans he

/-- Settles O29: `writesOnly_of_exec`, each engine by the selectors that name it. -/
theorem onlyTheSelectedEngineIsTouched : Obligations.OnlyTheSelectedEngineIsTouched := by
  intro i s t h
  have hw := writesOnly_of_exec h
  obtain ⟨hcrc8, hcrc16, hcrc32, hmd5, hsha1, hs256, hs512⟩ := engineOf_eq_some_iff t.sel
  exact ⟨fun hne => hw.crc8 (mt hcrc8.mp hne), fun hne => hw.crc16 (mt hcrc16.mp hne),
    fun hne => hw.crc32 (mt hcrc32.mp hne), fun hne => hw.md5 (mt hmd5.mp hne), fun hne => hw.sha1 (mt hsha1.mp hne),
    fun hne0 hne6 => hw.s256 (mt hs256.mp (not_or.mpr ⟨hne0, hne6⟩)),
    fun hne7 hne8 => hw.s512 (mt hs512.mp (not_or.mpr ⟨hne7, hne8⟩)), dout_dlen_of_exec_of_not_supported h⟩

end Sys2Proof.Machine

/-! PROOFS. The invariant between commands (10_state.md R22 to R29, R32): every operation of an engine keeps that of its
record, every command what the invariant asks of the rest, and the response ends it. -/

namespace Sys2Proof.Machine

/-! ### The record of a Merkle–Damgård engine (R27 to R29) -/

section
variable {σ : Type} {cw : Nat} {sh : MdShell σ} {e : MdRecord σ cw}

theorem mdInv_mdReset (h : MdInv e) : MdInv (mdReset sh e) where
  cntBytes := rfl
  curBytes := by simp
  bufWf := h.bufWf

/-- One byte more is 8 more in the counter, which wraps at 2^64, a multiple of 8 times the block size. -/
theorem mdInv_mdAbsorb (hcw : cw ≤ 61) (h : MdInv e) (b : Byte) : MdInv (mdAbsorb sh e b) := by
  have hcnt : (mdAbsorb sh e b).cnt.toNat = (e.cnt.toNat + 8) % 2 ^ 64 := by
    rw [mdAbsorb_cnt, BitVec.toNat_add]
    rfl
  have hbytes : (mdAbsorb sh e b).cnt.toNat / 8 = (e.cnt.toNat / 8 + 1) % 2 ^ 61 := by
    have := h.cntBytes
    omega
  refine ⟨?cntBytes, ?curBytes, by rw [mdAbsorb_buf]; exact wf_mdStore h.bufWf b⟩
  case cntBytes =>
    have := h.cntBytes
    omega
  case curBytes =>
    rw [mdAbsorb_cur, hbytes, Nat.mod_mod_of_dvd _ (Nat.pow_dvd_pow 2 hcw), h.curBytes, Nat.mod_add_mod]

theorem mdInv_mdFinal (hf : sh.Fits cw) (h : MdInv e) : MdInv (mdFinal sh e) where
  cntBytes := by simpa using h.cntBytes
  curBytes := by simpa using h.curBytes
  bufWf := wf_mdFinal_buf hf h.bufWf

end

/-! ### The four records -/

/-- What the invariant says of the engines. -/
structure RecordsInv (s : State) : Prop where
  md5 : MdInv s.md5
  sha1 : MdInv s.sha1
  s256 : MdInv s.s256
  s512 : MdInv s.s512

theorem recordsInv_resetEngine (e : Engine) {s : State} (h : RecordsInv s) : RecordsInv (resetEngine e s) := by
  cases e with
  | crc8 | crc16 | crc32 => exact ⟨h.md5, h.sha1, h.s256, h.s512⟩
  | md5 => exact { h with md5 := mdInv_mdReset h.md5 }
  | sha1 => exact { h with sha1 := mdInv_mdReset h.sha1 }
  | s256 => exact { h with s256 := mdInv_mdReset h.s256 }
  | s512 => exact { h with s512 := mdInv_mdReset h.s512 }

theorem recordsInv_absorbEngine (e : Engine) (b : Byte) {s : State} (h : RecordsInv s) :
    RecordsInv (absorbEngine e b s) := by
  cases e with
  | crc8 | crc16 | crc32 => exact ⟨h.md5, h.sha1, h.s256, h.s512⟩
  | md5 => exact { h with md5 := mdInv_mdAbsorb (by decide) h.md5 b }
  | sha1 => exact { h with sha1 := mdInv_mdAbsorb (by decide) h.sha1 b }
  | s256 => exact { h with s256 := mdInv_mdAbsorb (by decide) h.s256 b }
  | s512 => exact { h with s512 := mdInv_mdAbsorb (by decide) h.s512 b }

theorem recordsInv_finalEngine (e : Engine) {s : State} (h : RecordsInv s) : RecordsInv (finalEngine e s) := by
  cases e with
  | crc8 | crc16 | crc32 => exact h
  | md5 => exact { h with md5 := mdInv_mdFinal md5Shell_fits h.md5 }
  | sha1 => exact { h with sha1 := mdInv_mdFinal sha1Shell_fits h.sha1 }
  | s256 => exact { h with s256 := mdInv_mdFinal (s256Shell_fits _) h.s256 }
  | s512 => exact { h with s512 := mdInv_mdFinal (s512Shell_fits _) h.s512 }

/-! ### Before the response -/

/-- The invariant without its last clause, the one that the response of the command restores. The variant bits are those
NEW of the selector in `SEL` writes (R24). -/
structure InvBeforeAnswer (s : State) : Prop where
  table : s.crc32T = crc32Table
  doutWf : s.dout.wf Config.doutBytes
  dlenLe : s.dlen.toNat ≤ Config.doutBytes
  records : RecordsInv s
  var256 : ∀ v, s256VarOf s.sel = some v → s.s256Var = v
  var512 : ∀ v, s512VarOf s.sel = some v → s.s512Var = v

theorem State.Inv.beforeAnswer {s : State} (h : s.Inv) : InvBeforeAnswer s where
  table := h.table
  doutWf := h.doutWf
  dlenLe := h.dlenLe
  records := ⟨h.md5, h.sha1, h.s256, h.s512⟩
  var256 _ := h.s256Var_eq
  var512 _ := h.s512Var_eq

/-- The response writes its status to `ERR` (R22), and that completes the invariant. -/
theorem InvBeforeAnswer.answer {s : State} (h : InvBeforeAnswer s) (st : Status) (p : List Byte) :
    (s.answer st p).Inv where
  table := h.table
  doutWf := h.doutWf
  dlenLe := h.dlenLe
  md5 := h.records.md5
  sha1 := h.records.sha1
  s256 := h.records.s256
  s512 := h.records.s512
  var256 := ⟨fun hsel => h.var256 0 ((s256VarOf_eq_some_iff _ _).mpr (.inl ⟨hsel, rfl⟩)),
    fun hsel => h.var256 1 ((s256VarOf_eq_some_iff _ _).mpr (.inr ⟨hsel, rfl⟩))⟩
  var512 := ⟨fun hsel => h.var512 0 ((s512VarOf_eq_some_iff _ _).mpr (.inl ⟨hsel, rfl⟩)),
    fun hsel => h.var512 1 ((s512VarOf_eq_some_iff _ _).mpr (.inr ⟨hsel, rfl⟩))⟩
  lastStatus r hr := by
    rw [State.answer_responses, List.getLast?_concat] at hr
    cases hr
    rfl

/-! ### Each command up to its response -/

theorem invBeforeAnswer_setSel {s : State} (h : s.Inv) {sel : BitVec 4} (hsel : engineOf sel = none) :
    InvBeforeAnswer (s.setSel sel) :=
  { h with
    records := ⟨h.md5, h.sha1, h.s256, h.s512⟩
    var256 := fun v hv => nomatch hv.symm.trans (s256VarOf_eq_none sel (by simp [hsel]))
    var512 := fun v hv => nomatch hv.symm.trans (s512VarOf_eq_none sel (by simp [hsel])) }

theorem invBeforeAnswer_new {s : State} (h : s.Inv) (e : Engine) (sel : BitVec 4) :
    InvBeforeAnswer (resetEngine e (setVariant sel (s.setSel sel))) where
  table := by simpa using h.table
  doutWf := by simpa using h.doutWf
  dlenLe := by simpa using h.dlenLe
  records := recordsInv_resetEngine e ⟨by simpa using h.md5, by simpa using h.sha1, by simpa using h.s256,
    by simpa using h.s512⟩
  var256 v hv := by
    have hv : s256VarOf sel = some v := by simpa using hv
    simp [setVariant_s256Var, hv]
  var512 v hv := by
    have hv : s512VarOf sel = some v := by simpa using hv
    simp [setVariant_s512Var, hv]

theorem invBeforeAnswer_byte {s : State} (h : s.Inv) (e : Engine) (b : Byte) :
    InvBeforeAnswer (absorbEngine e b s) where
  table := by simpa using h.table
  doutWf := by simpa using h.doutWf
  dlenLe := by simpa using h.dlenLe
  records := recordsInv_absorbEngine e b h.beforeAnswer.records
  var256 := by simpa using h.beforeAnswer.var256
  var512 := by simpa using h.beforeAnswer.var512

/-- The length of a digest fits in `DLEN` (R23). -/
theorem toNat_length_digestEngine (e : Engine) (s : State) :
    (BitVec.ofNat 7 (digestEngine e s).length).toNat = (digestEngine e s).length :=
  Nat.mod_eq_of_lt (Nat.lt_of_le_of_lt (length_digestEngine_le e s) (by decide))

theorem invBeforeAnswer_finish {s : State} (h : s.Inv) (e : Engine) :
    InvBeforeAnswer (resetEngine e (storeDigest (digestEngine e s) (finalEngine e s))) where
  table := by simpa using h.table
  doutWf := by
    have hle : 0 + (digestEngine e s).length ≤ Config.doutBytes := by simpa using length_digestEngine_le e s
    simpa using Memory.wf_writeBytes (digestEngine e s) h.doutWf hle
  dlenLe := by
    rw [resetEngine_dlen, storeDigest_dlen, toNat_length_digestEngine]
    exact length_digestEngine_le e s
  records :=
    have hfinal := recordsInv_finalEngine e h.beforeAnswer.records
    recordsInv_resetEngine e ⟨hfinal.md5, hfinal.sha1, hfinal.s256, hfinal.s512⟩
  var256 := by simpa using h.beforeAnswer.var256
  var512 := by simpa using h.beforeAnswer.var512

theorem inv_of_exec {i : Instr} {s t : State} (hs : s.Inv) (h : exec i s = .next t) : t.Inv := by
  rcases exec_next_cases h with ⟨hnone, rfl⟩ | ⟨e, _, ⟨sel, _, rfl⟩ | ⟨b, _, rfl⟩ | ⟨_, rfl⟩⟩
  · exact (invBeforeAnswer_setSel hs hnone).answer _ _
  · exact (invBeforeAnswer_new hs e sel).answer _ _
  · exact (invBeforeAnswer_byte hs e b).answer _ _
  · exact (invBeforeAnswer_finish hs e).answer _ _

/-- The invariant says nothing of the moves the host has yet to make. -/
theorem State.Inv.setPending {s : State} (h : s.Inv) (p : List HostMove) : (s.setPending p).Inv := { h with }

/-- Settles O32: an idle step changes nothing, a reset is `resetMeetsTheInvariant`, a command is `inv_of_exec`. -/
theorem everyStepKeepsTheInvariant : Obligations.EveryStepKeepsTheInvariant := by
  intro s t hs ht
  have hnext {u : State} (hu : step s = .next u) : t = u := by injection ht.symm.trans hu
  rcases step_cases s with ⟨_, h⟩ | ⟨rest, _, h⟩ | ⟨c, i, rest, _, _, h⟩ | ⟨c, why, rest, _, _, h⟩
  · rw [hnext h]
    exact hs
  · rw [hnext h]
    exact inv_reset.setPending _
  · exact inv_of_exec (hs.setPending rest) (h.symm.trans ht)
  · cases h.symm.trans ht

end Sys2Proof.Machine

/-! PROOFS. What of the state can be seen (10_state.md R23, R29, R36; 00_scope.md R17): two states that agree on what a rule
can read stay so, whatever the host does next. -/

namespace Sys2Proof.Machine

/-! ### The record of a Merkle–Damgård engine, read below its cursor (R29) -/

section
variable {σ : Type} {cw : Nat} {e f : MdRecord σ cw}

/-- RESET leaves no byte below the cursor. -/
theorem sameRecord_mdReset (sh : MdShell σ) (e f : MdRecord σ cw) : SameRecord (mdReset sh e) (mdReset sh f) where
  h := rfl
  cnt := rfl
  cur := rfl
  buf a ha := absurd ha (by simp)

/-- The byte stored at the cursor is the only new one below it. -/
theorem SameRecord.read_mdStore (h : SameRecord e f) (he : e.buf.wf (2 ^ cw)) (hf : f.buf.wf (2 ^ cw)) (b : Byte)
    {a : Nat} (ha : a ≤ e.cur.toNat) : (mdStore e b).read a = (mdStore f b).read a := by
  rw [Machine.read_mdStore he, Machine.read_mdStore hf, ← h.cur]
  split
  · rfl
  · exact h.buf a (by omega)

theorem sameRecord_mdAbsorb (sh : MdShell σ) (h : SameRecord e f) (he : e.buf.wf (2 ^ cw)) (hf : f.buf.wf (2 ^ cw))
    (b : Byte) : SameRecord (mdAbsorb sh e b) (mdAbsorb sh f b) := by
  have hcur : (mdAbsorb sh e b).cur = (mdAbsorb sh f b).cur := by
    apply BitVec.eq_of_toNat_eq
    rw [mdAbsorb_cur, mdAbsorb_cur, h.cur]
  refine ⟨?h, by rw [mdAbsorb_cnt, mdAbsorb_cnt, h.cnt], hcur, ?buf⟩
  case h =>
    rcases mdAbsorb_cases sh e b with ⟨hfull, hE⟩ | ⟨hne, hE⟩ <;>
      rcases mdAbsorb_cases sh f b with ⟨hfull', hF⟩ | ⟨hne', hF⟩
    · have hblock : mdBlock cw (mdStore e b) = mdBlock cw (mdStore f b) :=
        Memory.readBytes_congr fun a _ ha => h.read_mdStore he hf b (by omega)
      rw [hE, hF, hblock, h.h]
    · exact absurd (h.cur ▸ hfull) hne'
    · exact absurd (h.cur ▸ hfull') hne
    · rw [hE, hF, h.h]
  case buf =>
    intro a ha
    rw [mdAbsorb_cur] at ha
    rw [mdAbsorb_buf, mdAbsorb_buf]
    exact h.read_mdStore he hf b (Nat.lt_succ_iff.mp (ha.trans_le (Nat.mod_le _ _)))

/-- FINAL reads the held bytes, the count and the chaining value, nothing else of the record (41_md_common.md R163). -/
theorem SameRecord.mdDigest_eq {sh : MdShell σ} (hfit : sh.Fits cw) (h : SameRecord e f) (he : e.buf.wf (2 ^ cw))
    (hf : f.buf.wf (2 ^ cw)) : mdDigest sh e = mdDigest sh f := by
  have hheld : heldBytes e = heldBytes f := by
    rw [heldBytes, heldBytes, ← h.cur]
    exact List.map_congr_left fun a ha => h.buf a (List.mem_range.mp ha)
  have hfinal : finalBytes sh e = finalBytes sh f := by
    rw [finalBytes, finalBytes, hheld, h.cur, h.cnt]
  rw [← finalDigest_eq_mdDigest hfit e he, ← finalDigest_eq_mdDigest hfit f hf, finalDigest, finalDigest, hfinal, h.h]

end

/-! ### The record of the selected engine (R36) -/

/-- Two states that agree on the variant bit of the engine `e`, if it has one. -/
def SameVariant (e : Engine) (s t : State) : Prop :=
  (e = .s256 → s.s256Var = t.s256Var) ∧ (e = .s512 → s.s512Var = t.s512Var)

theorem sameVariant_of_sameEngine {e : Engine} {s t : State} (h : sameEngine e s t) : SameVariant e s t := by
  refine ⟨?_, ?_⟩ <;> rintro rfl
  · exact h.1
  · exact h.1

theorem sameEngine_resetEngine {e : Engine} {s t : State} (h : SameVariant e s t) :
    sameEngine e (resetEngine e s) (resetEngine e t) := by
  cases e with
  | crc8 | crc16 | crc32 => rfl
  | md5 => exact sameRecord_mdReset md5Shell s.md5 t.md5
  | sha1 => exact sameRecord_mdReset sha1Shell s.sha1 t.sha1
  | s256 =>
    have hv := h.1 rfl
    refine ⟨hv, ?_⟩
    show SameRecord (mdReset (s256Shell s.s256Var) s.s256) (mdReset (s256Shell t.s256Var) t.s256)
    rw [hv]
    exact sameRecord_mdReset _ _ _
  | s512 =>
    have hv := h.2 rfl
    refine ⟨hv, ?_⟩
    show SameRecord (mdReset (s512Shell s.s512Var) s.s512) (mdReset (s512Shell t.s512Var) t.s512)
    rw [hv]
    exact sameRecord_mdReset _ _ _

theorem sameEngine_absorbEngine {e : Engine} {s t : State} (hs : s.Inv) (ht : t.Inv) (h : sameEngine e s t) (b : Byte) :
    sameEngine e (absorbEngine e b s) (absorbEngine e b t) := by
  cases e with
  | crc8 => exact congrArg (crc8Absorb · b) h
  | crc16 => exact congrArg (crc16Absorb · b) h
  | crc32 =>
    have htable : s.crc32T = t.crc32T := hs.table.trans ht.table.symm
    exact congrArg₂ (crc32Absorb · · b) htable h
  | md5 => exact sameRecord_mdAbsorb md5Shell h hs.md5.bufWf ht.md5.bufWf b
  | sha1 => exact sameRecord_mdAbsorb sha1Shell h hs.sha1.bufWf ht.sha1.bufWf b
  | s256 =>
    obtain ⟨hv, h⟩ := h
    refine ⟨hv, ?_⟩
    show SameRecord (mdAbsorb (s256Shell s.s256Var) s.s256 b) (mdAbsorb (s256Shell t.s256Var) t.s256 b)
    rw [hv]
    exact sameRecord_mdAbsorb _ h hs.s256.bufWf ht.s256.bufWf b
  | s512 =>
    obtain ⟨hv, h⟩ := h
    refine ⟨hv, ?_⟩
    show SameRecord (mdAbsorb (s512Shell s.s512Var) s.s512 b) (mdAbsorb (s512Shell t.s512Var) t.s512 b)
    rw [hv]
    exact sameRecord_mdAbsorb _ h hs.s512.bufWf ht.s512.bufWf b

theorem digestEngine_eq_of_sameEngine {e : Engine} {s t : State} (hs : s.Inv) (ht : t.Inv) (h : sameEngine e s t) :
    digestEngine e s = digestEngine e t := by
  cases e with
  | crc8 => exact congrArg crc8Final h
  | crc16 => exact congrArg crc16Final h
  | crc32 => exact congrArg crc32Final h
  | md5 => exact h.mdDigest_eq md5Shell_fits hs.md5.bufWf ht.md5.bufWf
  | sha1 => exact h.mdDigest_eq sha1Shell_fits hs.sha1.bufWf ht.sha1.bufWf
  | s256 =>
    obtain ⟨hv, h⟩ := h
    exact (h.mdDigest_eq (s256Shell_fits _) hs.s256.bufWf ht.s256.bufWf).trans
      (congrArg (fun v => mdDigest (s256Shell v) t.s256) hv)
  | s512 =>
    obtain ⟨hv, h⟩ := h
    exact (h.mdDigest_eq (s512Shell_fits _) hs.s512.bufWf ht.s512.bufWf).trans
      (congrArg (fun v => mdDigest (s512Shell v) t.s512) hv)

/-! ### Each command (46_facade_hex.md R292 to R294) -/

theorem Alike.setPending {s t : State} (h : Alike s t) (p : List HostMove) : Alike (s.setPending p) (t.setPending p) :=
  { h with
    pending := rfl
    engine := fun e he => by
      have hengine := h.engine e he
      cases e <;> exact hengine }

/-- The same response at the end of two commands. -/
theorem Alike.answer {s t : State} (h : Alike s t) (st : Status) (p : List Byte) :
    Alike (s.answer st p) (t.answer st p) :=
  { h with
    err := rfl
    responses := by rw [State.answer_responses, State.answer_responses, h.responses]
    engine := fun e he => by
      have hengine := h.engine e he
      cases e <;> exact hengine }

/-- With no engine named, no record is read. -/
theorem Alike.setSel {s t : State} (h : Alike s t) {sel : BitVec 4} (hsel : engineOf sel = none) :
    Alike (s.setSel sel) (t.setSel sel) :=
  { h with
    sel := rfl
    engine := fun _ he => nomatch hsel.symm.trans he }

theorem sameVariant_setVariant {sel : BitVec 4} {e : Engine} (he : engineOf sel = some e) (s t : State) :
    SameVariant e (setVariant sel s) (setVariant sel t) := by
  refine ⟨?_, ?_⟩ <;> rintro rfl
  · rcases (engineOf_eq_some_iff sel).2.2.2.2.2.1.mp he with rfl | rfl <;> rfl
  · rcases (engineOf_eq_some_iff sel).2.2.2.2.2.2.mp he with rfl | rfl <;> rfl

theorem Alike.new {s t : State} (h : Alike s t) {sel : BitVec 4} {e : Engine} (he : engineOf sel = some e) :
    Alike (resetEngine e (setVariant sel (s.setSel sel))) (resetEngine e (setVariant sel (t.setSel sel))) where
  sel := by simp
  err := by simpa using h.err
  dlen := by simpa using h.dlen
  dout := by simpa using h.dout
  table := by simpa using h.table
  pending := by simpa using h.pending
  responses := by simpa using h.responses
  engine e' he' := by
    obtain rfl : e = e' := by simpa [he] using he'
    exact sameEngine_resetEngine (sameVariant_setVariant he _ _)

theorem Alike.byte {s t : State} (hs : s.Inv) (ht : t.Inv) (h : Alike s t) {e : Engine} (he : engineOf s.sel = some e)
    (b : Byte) : Alike (absorbEngine e b s) (absorbEngine e b t) where
  sel := by simpa using h.sel
  err := by simpa using h.err
  dlen := by simpa using h.dlen
  dout := by simpa using h.dout
  table := by simpa using h.table
  pending := by simpa using h.pending
  responses := by simpa using h.responses
  engine e' he' := by
    obtain rfl : e = e' := by simpa [he] using he'
    exact sameEngine_absorbEngine hs ht (h.engine e he) b

/-- FINISH writes one digest to both, so every byte of `DOUT` below the new `DLEN` is the same (R23). -/
theorem Alike.finish {s t : State} (hs : s.Inv) (ht : t.Inv) (h : Alike s t) {e : Engine}
    (he : engineOf s.sel = some e) :
    Alike (resetEngine e (storeDigest (digestEngine e s) (finalEngine e s)))
      (resetEngine e (storeDigest (digestEngine e s) (finalEngine e t))) where
  sel := by simpa using h.sel
  err := by simpa using h.err
  dlen := by simp
  dout a ha := by
    rw [resetEngine_dlen, storeDigest_dlen, toNat_length_digestEngine] at ha
    have hle : 0 + (digestEngine e s).length ≤ Config.doutBytes := by simpa using length_digestEngine_le e s
    simp only [resetEngine_dout, storeDigest_dout, finalEngine_dout]
    rw [Memory.read_writeBytes _ hs.doutWf hle, Memory.read_writeBytes _ ht.doutWf hle, if_pos (by omega),
      if_pos (by omega)]
  table := by simpa using h.table
  pending := by simpa using h.pending
  responses := by simpa using h.responses
  engine e' he' := by
    obtain rfl : e = e' := by simpa [he] using he'
    obtain ⟨hv256, hv512⟩ := sameVariant_of_sameEngine (h.engine e he)
    exact sameEngine_resetEngine ⟨by simpa using hv256, by simpa using hv512⟩

theorem exists_exec_alike {s t : State} (hs : s.Inv) (ht : t.Inv) (h : Alike s t) {i : Instr} {s' : State}
    (hexec : exec i s = .next s') : ∃ t', exec i t = .next t' ∧ Alike s' t' := by
  have hsel : selAfter i t = selAfter i s := by rw [selAfter, selAfter, h.sel]
  rcases exec_next_cases hexec with ⟨hnone, rfl⟩ | ⟨e, he, ⟨sel, hi, rfl⟩ | ⟨b, rfl, rfl⟩ | ⟨rfl, rfl⟩⟩
  · refine ⟨_, exec_of_engineOf_eq_none (hsel.symm ▸ hnone), ?_⟩
    rw [hsel]
    exact (h.setSel hnone).answer _ _
  · rw [selAfter_of_newSel hi] at he
    exact ⟨_, exec_new_eq_resetEngine hi he t, (h.new he).answer _ _⟩
  · rw [selAfter_byteImm] at he
    exact ⟨_, exec_byteImm_of_engineOf (h.sel ▸ he) b, (h.byte hs ht he b).answer _ _⟩
  · rw [selAfter_finish] at he
    refine ⟨_, exec_finish_of_engineOf (h.sel ▸ he), ?_⟩
    rw [← digestEngine_eq_of_sameEngine hs ht (h.engine e he)]
    exact (h.finish hs ht he).answer _ _

/-! ### The host's observation (00_scope.md R17) -/

theorem Alike.refl (s : State) : Alike s s where
  sel := rfl
  err := rfl
  dlen := rfl
  dout _ _ := rfl
  table := rfl
  pending := rfl
  responses := rfl
  engine e _ := by
    cases e with
    | crc8 | crc16 | crc32 => rfl
    | md5 | sha1 => exact ⟨rfl, rfl, rfl, fun _ _ => rfl⟩
    | s256 | s512 => exact ⟨rfl, rfl, rfl, rfl, fun _ _ => rfl⟩

theorem Alike.observe_eq {s t : State} (h : Alike s t) : observe s = observe t := by
  have hdout : s.dout.readBytes 0 s.dlen.toNat = t.dout.readBytes 0 s.dlen.toNat :=
    Memory.readBytes_congr fun a _ ha => h.dout a (by omega)
  rw [observe, observe, hostView, hostView, hdout, h.responses, h.err, h.dlen]

theorem exists_step_alike {s t : State} (hs : s.Inv) (ht : t.Inv) (h : Alike s t) {s' : State}
    (hstep : step s = .next s') : ∃ t', step t = .next t' ∧ Alike s' t' := by
  have hnext {u : State} (hu : step s = .next u) : s' = u := by injection hstep.symm.trans hu
  rcases step_cases s with ⟨hp, hS⟩ | ⟨rest, hp, hS⟩ | ⟨c, i, rest, hp, hd, hS⟩ | ⟨c, why, rest, _, _, hS⟩
  · rw [hnext hS]
    exact ⟨t, step_of_pending_nil (h.pending ▸ hp), h⟩
  · rw [hnext hS]
    exact ⟨_, step_of_hardwareReset_pending (h.pending ▸ hp), .refl _⟩
  · obtain ⟨t', hexec, halike⟩ := exists_exec_alike (hs.setPending rest) (ht.setPending rest) (h.setPending rest)
      (hS.symm.trans hstep)
    exact ⟨t', (stepRunsTheDecodedCommand t i c rest (h.pending ▸ hp) hd).trans hexec, halike⟩
  · cases hS.symm.trans hstep

theorem step_refused_alike {s t : State} (h : Alike s t) {r : Refusal} (hstep : step s = .refused r) :
    step t = .refused r := by
  rcases step_cases s with ⟨_, hS⟩ | ⟨rest, _, hS⟩ | ⟨c, i, rest, _, _, hS⟩ | ⟨c, why, rest, hp, hd, hS⟩
  · cases hS.symm.trans hstep
  · cases hS.symm.trans hstep
  · obtain ⟨u, hu⟩ := exists_exec_eq_next i (s.setPending rest)
    cases (hu.symm.trans hS.symm).trans hstep
  · rw [step_of_pending_cons (h.pending ▸ hp), ← hstep, hS, runMove, runWord, hd]

/-- Settles O36: a step keeps two states alike (`exists_step_alike`), and alike states are observed alike. -/
theorem unselectedAndUnspecifiedStateIsNeverSeen : Obligations.UnselectedAndUnspecifiedStateIsNeverSeen := by
  intro s t hs ht h
  refine ⟨fun s' hstep => ?_, fun r => step_refused_alike h⟩
  obtain ⟨t', ht', halike⟩ := exists_step_alike hs ht h hstep
  exact ⟨t', ht', halike, halike.observe_eq⟩

end Sys2Proof.Machine

/-! PROOFS. The statements of 95_test_vectors.md: the digests the document prints (section 1.1) and one COMPRESS in each
Merkle–Damgård engine (sections 5 to 8). Both are closed computations on single blocks. -/

namespace Sys2Proof.Machine

/-! ### The literal digests (section 1.1) -/

/-- The digests of the empty message: for MD5, SHA-256 and SHA-1 one block of padding, for CRC-32 no step at all. -/
theorem wholeDigest_nil :
    wholeDigest 0x1 [] = numeralBytes 16 0xd41d8cd98f00b204e9800998ecf8427e ∧
    wholeDigest 0x0 [] = numeralBytes 32 0xe3b0c44298fc1c149afbf4c8996fb92427ae41e4649b934ca495991b7852b855 ∧
    wholeDigest 0x5 [] = numeralBytes 20 0xda39a3ee5e6b4b0d3255bfef95601890afd80709 ∧
    wholeDigest 0x2 [] = numeralBytes 4 0x00000000 := by
  decide +kernel

/-- Settles O26: from reset the host reads the whole-message digest (`exists_computeDigest_eq_next`), and
`wholeDigest_nil` and `wholeDigest_abc` say which bytes those are. -/
theorem literalDigestsOfTheDocument : Obligations.LiteralDigestsOfTheDocument := by
  unfold Obligations.LiteralDigestsOfTheDocument
  intro result hex
  have hread {sel : BitVec 4} {m : List Byte} {n x : Nat} (hsel : supported sel)
      (hwhole : wholeDigest sel m = numeralBytes n x) : ∃ d, result sel m = some d ∧ hex d n x := by
    obtain ⟨t, hrun, hdout⟩ := exists_computeDigest_eq_next inv_reset hsel m
    exact ⟨(hostView t).dout, by simp only [result, hrun], hdout.trans hwhole⟩
  obtain ⟨hmd5, hsha256, hsha1, hcrc32⟩ := wholeDigest_nil
  obtain ⟨_, _, _, _, _, _, habc, _, _⟩ := wholeDigest_abc
  exact ⟨hread (by decide) hmd5, hread (by decide) hsha256, hread (by decide) hsha1, hread (by decide) habc,
    hread (by decide) hcrc32⟩

/-! ### One COMPRESS of the padded "abc" (sections 5 to 8) -/

/-- Settles O43: each side is closed, a padded block and an initial vector on the left, the traced words on the right. -/
theorem sampleCompressions : Obligations.SampleCompressions := by
  unfold Obligations.SampleCompressions
  refine ⟨?sha256, ?sha224, ?sha1, ?md5, ?sha512, ?sha384⟩
  all_goals decide +kernel

end Sys2Proof.Machine
